-- ==== Sys2Proof/Word.lean ====
section
/-! DEFINITION. The word types of CRCCFG (00_scope.md R8, 30_encoding.md R60). -/

namespace Sys2Proof

/-- 8 bits: one record code, one buffer byte, one byte of a checksum stream (00_scope.md R8). -/
abbrev Byte := BitVec 8

/-- 32 bits: the data field, a response, the accumulator (00_scope.md R6, `DATA_W`). -/
abbrev Word := BitVec 32

/-- A 7-bit register address (00_scope.md R6, `ADDR_W`). -/
abbrev Addr := BitVec 7

/-- A 40-bit transaction word `T` (30_encoding.md R60). -/
abbrev Txn := BitVec 40

/-- The index `i` of `AXIS[i]`, 0 to 7 (30_encoding.md R63 a). -/
abbrev AxisIdx := BitVec 3

/-- The index `j` of `BTN[j]`, 0 to 15 (30_encoding.md R63 a). -/
abbrev BtnIdx := BitVec 4

/-- The index `k` of `BUF[k]`, 0 to 63 (30_encoding.md R63 a). -/
abbrev BufIdx := BitVec 6

end Sys2Proof
end

