-- ==== Sys2Proof/Config.lean ====
section
/-! DEFINITION. The parameters of CRCCFG: what the source fixes (00_scope.md R5) and what the
spec decides (00_scope.md R6). The one open parameter, `DEC_VERIFY_CRC` (00_scope.md R7), is a field
of State, so that every statement over a state holds for both of its values (log entry 4). -/

namespace Sys2Proof.Config

/-- `POLY_REFLECTED` (00_scope.md R5). -/
def polyReflected : Word := 0xEDB88320#32

/-- `CRC_INIT`, the accumulator's start value (00_scope.md R5). -/
def crcInit : Word := 0xFFFFFFFF#32

/-- `CRC_XOROUT` (00_scope.md R5). -/
def crcXorOut : Word := 0xFFFFFFFF#32

/-- `TABLE_SIZE` (00_scope.md R5). -/
def tableSize : Nat := 256

/-- `SUPPORTED_VERSION` (00_scope.md R5, 10_state.md R35). -/
def supportedVersion : Byte := 1#8

/-- `CMD_SET_CONFIG`, the payload's command byte (00_scope.md R5, 10_state.md R35). -/
def cmdSetConfig : Byte := 0#8

/-- `REPORT_ID`, which only the transport uses (00_scope.md R5, 10_state.md R35). -/
def reportId : Byte := 3#8

/-- `N_AXES` (00_scope.md R5). -/
def nAxes : Nat := 8

/-- `N_BUTTONS` (00_scope.md R5). -/
def nButtons : Nat := 16

/-- `PAYLOAD_LEN` (00_scope.md R5). -/
def payloadLen : Nat := 26

/-- `CHECKSUM_LEN` (00_scope.md R5). -/
def checksumLen : Nat := 4

/-- `ENC_LEN` (00_scope.md R5). -/
def encLen : Nat := 30

/-- `DEC_MIN_LEN` (00_scope.md R5). -/
def decMinLen : Nat := 27

/-- `WIRE_LEN`: a buffer this long holds a checksum (00_scope.md R5, 92_eei_decisions.md D18). -/
def wireLen : Nat := 31

/-- `BUF_SIZE` (00_scope.md R6). -/
def bufSize : Nat := 64

/-- `OP_CRC_INIT` (00_scope.md R6). -/
def opCrcInit : Byte := 0x01#8

/-- `OP_CFG_ENC` (00_scope.md R6). -/
def opCfgEnc : Byte := 0x02#8

/-- `OP_CFG_DEC` (00_scope.md R6). -/
def opCfgDec : Byte := 0x03#8

/-- The value `DEC_VERIFY_CRC` has in the spec's reference instance (00_scope.md R7).
DESIGN CHOICE (log entry 4, unsafe): `State.reset` is the reference instance's reset state. -/
def referenceDecVerifyCrc : Bool := true

end Sys2Proof.Config
end

