-- ==== Sys2Proof/Machine/Operands.lean ====
section
/-! DEFINITION. Operand assembly and the value conventions: the fields of a transaction word
(30_encoding.md R60, R63), widths at the port (20_memory.md R42), the length clamp
(42_register_access.md R132), the checksum's byte order (00_scope.md R9, 20_memory.md R43) and the
signed view of a code (00_scope.md R11). -/

namespace Sys2Proof.Machine

/-- `W = T[39]` (30_encoding.md R60). -/
def fieldW (t : Txn) : Bool := t.getLsbD 39

/-- `A = T[38:32]` (30_encoding.md R60). -/
def fieldA (t : Txn) : Addr := t.extractLsb' 32 7

/-- `D = T[31:0]` (30_encoding.md R60). -/
def fieldD (t : Txn) : Word := t.extractLsb' 0 32

/-- `D[7:0]`: what a narrow write stores, a command's opcode, the byte to absorb
(30_encoding.md R63 b, c, d). -/
def dataByte (d : Word) : Byte := d.extractLsb' 0 8

/-- `i = A[2:0]` (30_encoding.md R63 a). -/
def axisIdx (a : Addr) : AxisIdx := a.extractLsb' 0 3

/-- `j = A[3:0]` (30_encoding.md R63 a). -/
def btnIdx (a : Addr) : BtnIdx := a.extractLsb' 0 4

/-- `k = A[5:0]` (30_encoding.md R63 a). -/
def bufIdx (a : Addr) : BufIdx := a.extractLsb' 0 6

/-- The address `0x10 + i` of `AXIS[i]` (20_memory.md R41): `A[6:3] = 0b0010`. -/
def axisAddr (i : AxisIdx) : Addr := 0b0010#4 ++ i

/-- The address `0x20 + j` of `BTN[j]` (20_memory.md R41): `A[6:4] = 0b010`. -/
def btnAddr (j : BtnIdx) : Addr := 0b010#3 ++ j

/-- The address `0x40 + k` of `BUF[k]` (20_memory.md R41): `A[6] = 1`. -/
def bufAddr (k : BufIdx) : Addr := 1#1 ++ k

/-- `zext_32` (00_scope.md R9): how a narrow register reads (20_memory.md R42). -/
def zext32 {n : Nat} (v : BitVec n) : Word := v.setWidth 32

/-- `min(D[7:0], 64)` as the 7-bit `BUF_LEN` holds it (42_register_access.md R132). -/
def clampLen (v : Byte) : BitVec 7 := BitVec.ofNat 7 (min v.toNat Config.bufSize)

/-- `le32` (00_scope.md R9): least significant byte first (20_memory.md R43). -/
def le32 (c : Word) : List Byte :=
  [c.extractLsb' 0 8, c.extractLsb' 8 8, c.extractLsb' 16 8, c.extractLsb' 24 8]

/-- `from_le32` (00_scope.md R9). -/
def fromLe32 (b0 b1 b2 b3 : Byte) : Word :=
  zext32 b0 ||| (zext32 b1 <<< 8) ||| (zext32 b2 <<< 16) ||| (zext32 b3 <<< 24)

/-- The signed view of a code (00_scope.md R11). -/
def s8 (b : Byte) : Int := if b.toNat ≤ 0x7F then b.toNat else b.toNat - 256

/-- The raw byte of an integer code: "raw integer value cast to 8-bit width" (00_scope.md R11). -/
def u8 (n : Int) : Byte := BitVec.ofInt 8 n

end Sys2Proof.Machine
end

