-- ==== Sys2Proof/Syntax.lean ====
section
/-! DEFINITION. The instructions of CRCCFG, one constructor per row of spec/opcode_table.json
(30_encoding.md R65), and the assembler's names for them (R68, R69). Bits the spec calls ignored
(R62, R63 b) are no operands (log entry 6). -/

namespace Sys2Proof

/-- One host transaction, decoded. The constructors stand in the order of 30_encoding.md R65. -/
inductive Instr where
  /-- CRC.INIT, start a checksum (40_crc_engine.md R85). -/
  | crcInit
  /-- CFG.ENC, serialize the record into the buffer (41_config_codec.md R110). -/
  | cfgEnc
  /-- CFG.DEC, parse the buffer into the record (41_config_codec.md R111). -/
  | cfgDec
  /-- CMD.RSVD, a reserved command opcode `D[7:0]` (30_encoding.md R66). -/
  | cmdRsvd (op : Byte)
  /-- WR.ACC, load the accumulator (40_crc_engine.md R89). -/
  | wrAcc (v : Word)
  /-- CRC.UPD, absorb one byte (40_crc_engine.md R86). -/
  | crcUpd (b : Byte)
  /-- WR.TBLIDX, set the table window index (40_crc_engine.md R91). -/
  | wrTblidx (v : Byte)
  /-- WR.BUFLEN, declare the buffer's length (42_register_access.md R132). -/
  | wrBuflen (v : Byte)
  /-- WR.RVER, write the record's version (42_register_access.md R134). -/
  | wrRver (v : Byte)
  /-- WR.NAX, declare the number of axis values (42_register_access.md R136). -/
  | wrNax (v : Byte)
  /-- WR.NBT, declare the number of button values (42_register_access.md R138). -/
  | wrNbt (v : Byte)
  /-- WR.AXIS, write one axis register (42_register_access.md R140). -/
  | wrAxis (i : AxisIdx) (v : Byte)
  /-- WR.BTN, write one button register (42_register_access.md R142). -/
  | wrBtn (j : BtnIdx) (v : Byte)
  /-- WR.BUF, write one buffer byte (42_register_access.md R144). -/
  | wrBuf (k : BufIdx) (v : Byte)
  /-- RD.RESULT, read the result code (42_register_access.md R130). -/
  | rdResult
  /-- RD.ACC, read the raw accumulator (40_crc_engine.md R88). -/
  | rdAcc
  /-- CRC.FIN, read the checksum (40_crc_engine.md R87). -/
  | crcFin
  /-- RD.TBLIDX, read the table window index (40_crc_engine.md R90). -/
  | rdTblidx
  /-- RD.TBL, read one table entry (40_crc_engine.md R92). -/
  | rdTbl
  /-- RD.BUFLEN, read the buffer's length (42_register_access.md R131). -/
  | rdBuflen
  /-- RD.RVER, read the record's version (42_register_access.md R133). -/
  | rdRver
  /-- RD.NAX, read the declared number of axis values (42_register_access.md R135). -/
  | rdNax
  /-- RD.NBT, read the declared number of button values (42_register_access.md R137). -/
  | rdNbt
  /-- RD.AXIS, read one axis register (42_register_access.md R139). -/
  | rdAxis (i : AxisIdx)
  /-- RD.BTN, read one button register (42_register_access.md R141). -/
  | rdBtn (j : BtnIdx)
  /-- RD.BUF, read one buffer byte (42_register_access.md R143). -/
  | rdBuf (k : BufIdx)
  /-- WR.RSVD, a write at an address that no earlier row takes (20_memory.md R46). -/
  | wrRsvd (a : Addr)
  /-- RD.RSVD, a read at an address that no earlier row takes (20_memory.md R46). -/
  | rdRsvd (a : Addr)
  deriving DecidableEq, Repr

/-- The direction bit `W` of an instruction's row (30_encoding.md R65): true for a write. -/
def Instr.isWrite : Instr → Bool
  | .crcInit => true
  | .cfgEnc => true
  | .cfgDec => true
  | .cmdRsvd _ => true
  | .wrAcc _ => true
  | .crcUpd _ => true
  | .wrTblidx _ => true
  | .wrBuflen _ => true
  | .wrRver _ => true
  | .wrNax _ => true
  | .wrNbt _ => true
  | .wrAxis _ _ => true
  | .wrBtn _ _ => true
  | .wrBuf _ _ => true
  | .rdResult => false
  | .rdAcc => false
  | .crcFin => false
  | .rdTblidx => false
  | .rdTbl => false
  | .rdBuflen => false
  | .rdRver => false
  | .rdNax => false
  | .rdNbt => false
  | .rdAxis _ => false
  | .rdBtn _ => false
  | .rdBuf _ => false
  | .wrRsvd _ => true
  | .rdRsvd _ => false

/-- Why a byte sequence is no transaction word (log entry 7). No 40-bit word is ever rejected
(30_encoding.md R65: "The rows are total"). -/
inductive DecodeError where
  /-- Raised by `decodeBytes` on a sequence whose length is not five bytes; the one length is 40 bits
  (30_encoding.md R60). Safe: it is no transaction. -/
  | notFortyBits (bytes : Nat)
  deriving DecidableEq, Repr

/-- A register's name in the assembler (30_encoding.md R68, 20_memory.md R41). -/
inductive Reg where
  | cmd
  | result
  | crcAcc
  | crcData
  | crcSum
  | tblIdx
  | tblData
  | bufLen
  | recVersion
  | recNax
  | recNbt
  | axis (i : AxisIdx)
  | btn (j : BtnIdx)
  | buf (k : BufIdx)
  /-- A bare address, written `@0x1B` (30_encoding.md R68). -/
  | bare (a : Addr)
  deriving DecidableEq, Repr

/-- One line in the assembler's two generic forms (30_encoding.md R68). -/
inductive AsmLine where
  | wr (r : Reg) (v : Word)
  | rd (r : Reg)
  deriving DecidableEq, Repr

/-- The pseudo-instructions of 30_encoding.md R69. -/
inductive Pseudo where
  | crcStream (bs : List Byte)
  | recLoad (v : Byte) (axes : Vector Byte 8) (btns : Vector Byte 16)
  | recDump
  | bufLoad (bs : List Byte)
  | bufDump (n : Nat)
  | encode
  | decode
  deriving DecidableEq, Repr

end Sys2Proof
end

