-- ==== Sys2Proof/WellFormed.lean ====
section
/-! DEFINITION. Which instructions are terms of some transaction word: the reserved rows carry an
opcode or an address that no earlier row takes (30_encoding.md R65, R66; 20_memory.md R46). -/

namespace Sys2Proof

/-- The reserved command opcodes: `0x00` and `0x04` to `0xFF` (30_encoding.md R64). -/
def isReservedOpcode (op : Byte) : Bool :=
  op != Config.opCrcInit && op != Config.opCfgEnc && op != Config.opCfgDec

/-- The three holes of the register map (20_memory.md R41). -/
def isHole (a : Addr) : Bool :=
  (0x0B ≤ a.toNat && a.toNat ≤ 0x0F) || (0x18 ≤ a.toNat && a.toNat ≤ 0x1F) ||
    (0x30 ≤ a.toNat && a.toNat ≤ 0x3F)

/-- Where a write is a reserved access: the holes, `RESULT`, `CRC_SUM` and `TBL_DATA`
(20_memory.md R46). -/
def isReservedWrite (a : Addr) : Bool :=
  isHole a || a == 0x01#7 || a == 0x04#7 || a == 0x06#7

/-- Where a read is a reserved access: the holes, `CMD` and `CRC_DATA` (20_memory.md R46). -/
def isReservedRead (a : Addr) : Bool :=
  isHole a || a == 0x00#7 || a == 0x03#7

/-- An instruction is well-formed when some transaction word stands for it. Only the three reserved
rows carry a check; every other operand takes every value of its width (30_encoding.md R63). -/
def Instr.wellFormed : Instr → Bool
  | .crcInit => true
  | .cfgEnc => true
  | .cfgDec => true
  | .cmdRsvd op => isReservedOpcode op
  | .wrAcc _ => true
  | .crcUpd _ => true
  | .wrTblidx _ => true
  | .wrBuflen _ => true
  | .wrRver _ => true
  | .wrNax _ => true
  | .wrNbt _ => true
  | .wrAxis _ _ => true
  | .wrBtn _ _ => true
  | .wrBuf _ _ => true
  | .rdResult => true
  | .rdAcc => true
  | .crcFin => true
  | .rdTblidx => true
  | .rdTbl => true
  | .rdBuflen => true
  | .rdRver => true
  | .rdNax => true
  | .rdNbt => true
  | .rdAxis _ => true
  | .rdBtn _ => true
  | .rdBuf _ => true
  | .wrRsvd a => isReservedWrite a
  | .rdRsvd a => isReservedRead a

/-- The length bound of `BUF.LOAD` and `BUF.DUMP` (30_encoding.md R69). -/
def Pseudo.wellFormed : Pseudo → Bool
  | .crcStream _ => true
  | .recLoad _ _ _ => true
  | .recDump => true
  | .bufLoad bs => bs.length ≤ Config.bufSize
  | .bufDump n => n ≤ Config.bufSize
  | .encode => true
  | .decode => true

end Sys2Proof
end

