-- ==== Sys2Proof/Decode.lean ====
section
/-! DEFINITION. The opcode map as the spec prints it, 28 rows of match and mask of which the first
that matches names the instruction (30_encoding.md R65), and the encoder beside it. -/

namespace Sys2Proof

open Sys2Proof.Machine

/-- One row of 30_encoding.md R65: `match`, `mask`, and the operands R63 takes from the word. -/
structure Row where
  mnemonic : String
  pat : Txn
  mask : Txn
  build : Txn → Instr

/-- "a row matches when `(T and mask) = match`" (30_encoding.md R65). -/
def Row.hits (r : Row) (t : Txn) : Bool := (t &&& r.mask) == r.pat

/-- Rows 1 to 4: the writes to `CMD` (30_encoding.md R64). -/
def commandRows : List Row := [
  ⟨"CRC.INIT", 0x8000000001#40, 0xFF000000FF#40, fun _ => .crcInit⟩,
  ⟨"CFG.ENC", 0x8000000002#40, 0xFF000000FF#40, fun _ => .cfgEnc⟩,
  ⟨"CFG.DEC", 0x8000000003#40, 0xFF000000FF#40, fun _ => .cfgDec⟩,
  ⟨"CMD.RSVD", 0x8000000000#40, 0xFF00000000#40, fun t => .cmdRsvd (dataByte (fieldD t))⟩]

/-- Rows 5 to 14: the writes that the register map allows (20_memory.md R41). -/
def writeRows : List Row := [
  ⟨"WR.ACC", 0x8200000000#40, 0xFF00000000#40, fun t => .wrAcc (fieldD t)⟩,
  ⟨"CRC.UPD", 0x8300000000#40, 0xFF00000000#40, fun t => .crcUpd (dataByte (fieldD t))⟩,
  ⟨"WR.TBLIDX", 0x8500000000#40, 0xFF00000000#40, fun t => .wrTblidx (dataByte (fieldD t))⟩,
  ⟨"WR.BUFLEN", 0x8700000000#40, 0xFF00000000#40, fun t => .wrBuflen (dataByte (fieldD t))⟩,
  ⟨"WR.RVER", 0x8800000000#40, 0xFF00000000#40, fun t => .wrRver (dataByte (fieldD t))⟩,
  ⟨"WR.NAX", 0x8900000000#40, 0xFF00000000#40, fun t => .wrNax (dataByte (fieldD t))⟩,
  ⟨"WR.NBT", 0x8A00000000#40, 0xFF00000000#40, fun t => .wrNbt (dataByte (fieldD t))⟩,
  ⟨"WR.AXIS", 0x9000000000#40, 0xF800000000#40,
    fun t => .wrAxis (axisIdx (fieldA t)) (dataByte (fieldD t))⟩,
  ⟨"WR.BTN", 0xA000000000#40, 0xF000000000#40,
    fun t => .wrBtn (btnIdx (fieldA t)) (dataByte (fieldD t))⟩,
  ⟨"WR.BUF", 0xC000000000#40, 0xC000000000#40,
    fun t => .wrBuf (bufIdx (fieldA t)) (dataByte (fieldD t))⟩]

/-- Rows 15 to 26: the reads that the register map allows; `D` is ignored (30_encoding.md R62). -/
def readRows : List Row := [
  ⟨"RD.RESULT", 0x0100000000#40, 0xFF00000000#40, fun _ => .rdResult⟩,
  ⟨"RD.ACC", 0x0200000000#40, 0xFF00000000#40, fun _ => .rdAcc⟩,
  ⟨"CRC.FIN", 0x0400000000#40, 0xFF00000000#40, fun _ => .crcFin⟩,
  ⟨"RD.TBLIDX", 0x0500000000#40, 0xFF00000000#40, fun _ => .rdTblidx⟩,
  ⟨"RD.TBL", 0x0600000000#40, 0xFF00000000#40, fun _ => .rdTbl⟩,
  ⟨"RD.BUFLEN", 0x0700000000#40, 0xFF00000000#40, fun _ => .rdBuflen⟩,
  ⟨"RD.RVER", 0x0800000000#40, 0xFF00000000#40, fun _ => .rdRver⟩,
  ⟨"RD.NAX", 0x0900000000#40, 0xFF00000000#40, fun _ => .rdNax⟩,
  ⟨"RD.NBT", 0x0A00000000#40, 0xFF00000000#40, fun _ => .rdNbt⟩,
  ⟨"RD.AXIS", 0x1000000000#40, 0xF800000000#40, fun t => .rdAxis (axisIdx (fieldA t))⟩,
  ⟨"RD.BTN", 0x2000000000#40, 0xF000000000#40, fun t => .rdBtn (btnIdx (fieldA t))⟩,
  ⟨"RD.BUF", 0x4000000000#40, 0xC000000000#40, fun t => .rdBuf (bufIdx (fieldA t))⟩]

/-- Row 27: every other write (20_memory.md R46). -/
def wrRsvdRow : Row :=
  ⟨"WR.RSVD", 0x8000000000#40, 0x8000000000#40, fun t => .wrRsvd (fieldA t)⟩

/-- Row 28: every other read (20_memory.md R46). -/
def rdRsvdRow : Row :=
  ⟨"RD.RSVD", 0x0000000000#40, 0x8000000000#40, fun t => .rdRsvd (fieldA t)⟩

/-- All 28 rows in the order they are tried (30_encoding.md R65). -/
def rows : List Row := commandRows ++ writeRows ++ readRows ++ [wrRsvdRow, rdRsvdRow]

/-- The row that decides: the first that matches. Row 28 is the last; `Laws/Decode.lean` proves that a
word which reaches it matches it (30_encoding.md R65: "The rows are total"). -/
def firstRow (t : Txn) : Row := (rows.find? (fun r => r.hits t)).getD rdRsvdRow

/-- Decode a transaction word; total (30_encoding.md R65, R67). -/
def decode (t : Txn) : Instr := (firstRow t).build t

/-- The five bytes of a word in the order its ten hexadecimal digits are written, `T[39:32]` first
(30_encoding.md R60; log entry 7, DESIGN CHOICE: the spec defines no wire). -/
def txnOfBytes : List Byte → Except DecodeError Txn
  | [b0, b1, b2, b3, b4] => .ok (b0 ++ b1 ++ b2 ++ b3 ++ b4)
  | bs => .error (.notFortyBits bs.length)

/-- Decode any byte sequence, rejecting by name what is no transaction word (log entry 7). -/
def decodeBytes (bs : List Byte) : Except DecodeError Instr :=
  match txnOfBytes bs with
  | .ok t => .ok (decode t)
  | .error e => .error e

/-- A transaction word from its three fields (30_encoding.md R60). -/
def txn (w : Bool) (a : Addr) (d : Word) : Txn := BitVec.ofBool w ++ a ++ d

/-- A write of a narrow value: `D[31:8] = 0` (30_encoding.md R63 b, log entry 6). -/
def txnWrite (a : Addr) (v : Byte) : Txn := txn true a (zext32 v)

/-- A read: "The assembler emits `D = 0` for reads" (30_encoding.md R62). -/
def txnRead (a : Addr) : Txn := txn false a 0#32

/-- The word of an instruction, every ignored bit 0 (30_encoding.md R62, R65; log entry 6). -/
def encode : Instr → Txn
  | .crcInit => txnWrite 0x00#7 Config.opCrcInit
  | .cfgEnc => txnWrite 0x00#7 Config.opCfgEnc
  | .cfgDec => txnWrite 0x00#7 Config.opCfgDec
  | .cmdRsvd op => txnWrite 0x00#7 op
  | .wrAcc v => txn true 0x02#7 v
  | .crcUpd b => txnWrite 0x03#7 b
  | .wrTblidx v => txnWrite 0x05#7 v
  | .wrBuflen v => txnWrite 0x07#7 v
  | .wrRver v => txnWrite 0x08#7 v
  | .wrNax v => txnWrite 0x09#7 v
  | .wrNbt v => txnWrite 0x0A#7 v
  | .wrAxis i v => txnWrite (axisAddr i) v
  | .wrBtn j v => txnWrite (btnAddr j) v
  | .wrBuf k v => txnWrite (bufAddr k) v
  | .rdResult => txnRead 0x01#7
  | .rdAcc => txnRead 0x02#7
  | .crcFin => txnRead 0x04#7
  | .rdTblidx => txnRead 0x05#7
  | .rdTbl => txnRead 0x06#7
  | .rdBuflen => txnRead 0x07#7
  | .rdRver => txnRead 0x08#7
  | .rdNax => txnRead 0x09#7
  | .rdNbt => txnRead 0x0A#7
  | .rdAxis i => txnRead (axisAddr i)
  | .rdBtn j => txnRead (btnAddr j)
  | .rdBuf k => txnRead (bufAddr k)
  | .wrRsvd a => txnWrite a 0#8
  | .rdRsvd a => txnRead a

/-- The 40-bit word that an opcode-table row of `nbits` bits stands for, bits above `nbits` zero;
none for a number that needs more than 40 bits (30_encoding.md R60: "There is one length (40 bits)";
log entry 10). -/
def tableTxn (nbits w : Nat) : Option Txn :=
  if w % 2 ^ nbits < 2 ^ 40 then some (BitVec.ofNat 40 (w % 2 ^ nbits)) else none

/-- The instruction the decoder reads from a word numbered as spec/opcode_table.json numbers it. -/
def decodeTableWord (nbits w : Nat) : Option Instr :=
  match tableTxn nbits w with
  | some t => some (decode t)
  | none => none

end Sys2Proof
end

