-- ==== Sys2Proof/Machine/State.lean ====
section
/-! DEFINITION. The machine's state as plain data, everything 10_state.md R20 gives the block and the
three fields of the model's own (log entries 1, 3, 4), its state after reset (70_reset_and_hazards.md
R181), and the reasons a step could stop. -/

namespace Sys2Proof.Machine

/-- The buffer's contents: (index, byte) cells, indices strictly rising, no cell equal to what an
unlisted index reads as (log entry 5). -/
abbrev Memory := List Host.Cell

/-- What a byte that no cell lists reads as: the reset contents of `BUF` (70_reset_and_hazards.md R181). -/
def unlistedByte : Byte := 0x00#8

/-- The complete state. The first ten fields are 10_state.md R20's list; `TABLE` is a constant outside
the state, as R20 allows. The last three are the model's: the open parameter (00_scope.md R7) and the
run (00_scope.md R13). -/
structure State where
  /-- `ACC` (10_state.md R21). -/
  acc : Word
  /-- `TBL_IDX` (10_state.md R23). -/
  tblIdx : Byte
  /-- `RESULT` (10_state.md R24). -/
  result : Byte
  /-- `REC_VERSION` (10_state.md R25). -/
  recVersion : Byte
  /-- `REC_NAX` (10_state.md R26). -/
  recNax : Byte
  /-- `REC_NBT` (10_state.md R26). -/
  recNbt : Byte
  /-- `AXIS[0..7]` (10_state.md R27). -/
  axis : Vector Byte 8
  /-- `BTN[0..15]` (10_state.md R28). -/
  btn : Vector Byte 16
  /-- `BUF[0..63]` (10_state.md R30). -/
  buf : Memory
  /-- `BUF_LEN` (10_state.md R30). -/
  bufLen : BitVec 7
  /-- `DEC_VERIFY_CRC`, which no instruction writes (00_scope.md R7, log entry 4). -/
  decVerifyCrc : Bool
  /-- The transaction words the host has still to apply, the next one first (00_scope.md R13,
  log entry 1). -/
  pending : List Txn
  /-- The responses of the reads so far, in order (00_scope.md R13, 30_encoding.md R61,
  log entry 3). -/
  responses : List Word
  deriving DecidableEq, Repr

/-- Why the machine could stop with a fault. No constructor: "There is no trap, no fault state, no
stuck state and no hang in CRCCFG" (00_scope.md R12; log entry 11). -/
inductive Fault where
  deriving DecidableEq, Repr

/-- Why an instruction could have no meaning. -/
inductive Refusal where
  /-- Raised by an arm of `exec` whose instruction has no meaning yet; no arm raises it. Safe: a
  refusal claims nothing. -/
  | notModelled (mnemonic : String)
  deriving DecidableEq, Repr

/-- The three outcomes of a step of this machine. -/
abbrev Outcome := Host.Outcome State Fault Refusal

/-- The errors a command can end with (60_exceptions.md R161). -/
inductive CmdError where
  /-- Raised by CFG.ENC (60_exceptions.md R162). -/
  | invalidRecordShape
  /-- Raised by CFG.DEC (60_exceptions.md R163). -/
  | unsupportedVersion
  /-- Raised by CFG.DEC when it verifies a checksum (60_exceptions.md R164). -/
  | checksumMismatch
  /-- Raised by CFG.DEC (60_exceptions.md R165). -/
  | shortBuffer
  /-- Raised by CMD.RSVD (60_exceptions.md R166). -/
  | illegalCommand
  deriving DecidableEq, Repr

/-- The state after reset (70_reset_and_hazards.md R181) of the instance whose parameter
`DEC_VERIFY_CRC` is `verify`, with no word applied yet and none chosen (log entries 1, 3). -/
def State.resetOf (verify : Bool) : State where
  acc := 0xFFFFFFFF#32
  tblIdx := 0x00#8
  result := 0x00#8
  recVersion := 0x00#8
  recNax := 0x00#8
  recNbt := 0x00#8
  axis := Vector.replicate 8 0x00#8
  btn := Vector.replicate 16 0x00#8
  buf := []
  bufLen := 0#7
  decVerifyCrc := verify
  pending := []
  responses := []

/-- The state after reset of the spec's reference instance (00_scope.md R7; DESIGN CHOICE, log
entry 4: no statement rests on the parameter's value). -/
def State.reset : State := State.resetOf Config.referenceDecVerifyCrc

end Sys2Proof.Machine
end

