-- ==== Sys2Proof/Machine/Flags.lean ====
section
/-! DEFINITION. Status. "There are no condition flags, carry, overflow or predicate bits. The only
status is the code in `RESULT`" (10_state.md R33): the result codes (60_exceptions.md R161) and the
one write of `RESULT`. -/

namespace Sys2Proof.Machine

/-- `RES_OK` (60_exceptions.md R161). -/
def resOk : Byte := 0x00#8

/-- `code(E)` (60_exceptions.md R161). -/
def CmdError.code : CmdError → Byte
  | .invalidRecordShape => 0x01#8
  | .unsupportedVersion => 0x02#8
  | .checksumMismatch => 0x03#8
  | .shortBuffer => 0x04#8
  | .illegalCommand => 0xFF#8

/-- Every code that can stand in `RESULT` (60_exceptions.md R161, 42_register_access.md R130). -/
def resultCodes : List Byte := [0x00#8, 0x01#8, 0x02#8, 0x03#8, 0x04#8, 0xFF#8]

/-- `RESULT <- c` (10_state.md R24). -/
def State.setResult (s : State) (c : Byte) : State := { s with result := c }

end Sys2Proof.Machine
end

