-- ==== Sys2Proof/Machine/Ops.lean ====
section
/-! DEFINITION. The named operations over the buffer, the register files and the port, the outcome of
a command, and how a command error is taken (60_exceptions.md R160). -/

namespace Sys2Proof.Machine

/-! The buffer memory -/

/-- The byte at index `k` (00_scope.md R9, `MemRead(k, 1)`). Every index of 6 bits exists, so no read
can fault (20_memory.md R45). -/
def Memory.readByte : Memory → BufIdx → Byte
  | [], _ => unlistedByte
  | c :: m, k => if c.1 = k.toNat then c.2 else Memory.readByte m k

/-- Put a cell before the first cell of a higher index. -/
def Memory.insertCell (c : Host.Cell) : Memory → Memory
  | [] => [c]
  | d :: m => if c.1 < d.1 then c :: d :: m else d :: Memory.insertCell c m

/-- The memory without any cell of index `k`. -/
def Memory.dropCell (m : Memory) (k : BufIdx) : Memory := m.filter (fun c => c.1 != k.toNat)

/-- `MemWrite(k, 1, v)` (00_scope.md R9), keeping the canonical form: writing what an unlisted index
reads as removes the cell (log entry 5). -/
def Memory.writeByte (m : Memory) (k : BufIdx) (v : Byte) : Memory :=
  if v = unlistedByte then Memory.dropCell m k
  else Memory.insertCell (k.toNat, v) (Memory.dropCell m k)

/-- The canonical form: indices strictly rising, all inside the buffer, no cell that says what an
unlisted index reads as. -/
abbrev Memory.wf (m : Memory) : Prop :=
  m.Pairwise (fun c d => c.1 < d.1) ∧ ∀ c ∈ m, c.1 < Config.bufSize ∧ c.2 ≠ unlistedByte

/-- `for n: MemWrite(k + n, 1, bs[n])`. -/
def Memory.writeBytes (m : Memory) (k : Nat) : List Byte → Memory
  | [] => m
  | b :: bs => Memory.writeBytes (m.writeByte (BitVec.ofNat 6 k) b) (k + 1) bs

/-- `BUF[k]`. -/
def State.bufGet (s : State) (k : BufIdx) : Byte := s.buf.readByte k

/-- `BUF[k] <- v`. -/
def State.bufPut (s : State) (k : BufIdx) (v : Byte) : State := { s with buf := s.buf.writeByte k v }

/-- The byte sequence `BUF[k], ..., BUF[k+n-1]` (00_scope.md R9, `MemRead(k, n)`). -/
def State.bufBytes (s : State) (k n : Nat) : List Byte :=
  (List.range n).map (fun x => s.bufGet (BitVec.ofNat 6 (k + x)))

/-! The record register files -/

/-- `AXIS[i]` (10_state.md R27). -/
def State.axisGet (s : State) (i : AxisIdx) : Byte := s.axis[i.toNat]'i.isLt

/-- `AXIS[i] <- v`. -/
def State.axisPut (s : State) (i : AxisIdx) (v : Byte) : State :=
  { s with axis := s.axis.set i.toNat v i.isLt }

/-- `BTN[j]` (10_state.md R28). -/
def State.btnGet (s : State) (j : BtnIdx) : Byte := s.btn[j.toNat]'j.isLt

/-- `BTN[j] <- v`. -/
def State.btnPut (s : State) (j : BtnIdx) (v : Byte) : State :=
  { s with btn := s.btn.set j.toNat v j.isLt }

/-! The port -/

/-- `return v`: the response of a read transaction (30_encoding.md R61), and no other effect
(20_memory.md R47 b). -/
def respond (s : State) (v : Word) : Outcome := .next { s with responses := s.responses ++ [v] }

/-- The next word the host applies, and the state with that word taken (00_scope.md R13). -/
def fetch (s : State) : Option (Txn × State) :=
  match s.pending with
  | [] => none
  | t :: rest => some (t, { s with pending := rest })

/-- The host issues `t` before every word already pending. -/
def State.issue (s : State) (t : Txn) : State := { s with pending := t :: s.pending }

/-! How a command ends -/

/-- `raise E`, the exception of this machine: "the command stops, the register `RESULT` takes
`code(E)`, and no other state changes" (60_exceptions.md R160, R168). No handler, saved state or mode
exists, so control goes nowhere. -/
def raiseError (e : CmdError) (s : State) : Outcome := .next (s.setResult e.code)

/-- A command that completed: `RESULT <- 0x00` (60_exceptions.md R161). After an error too, the return
is only this: "There is no return instruction and nothing to acknowledge"; the next command's code
replaces the error's (60_exceptions.md R169). -/
def succeed (s : State) : Outcome := .next (s.setResult resOk)

end Sys2Proof.Machine
end

