-- ==== Sys2Proof/Machine/Codec.lean ====
section
/-! DEFINITION. The config record codec: the layouts (41_config_codec.md R105 to R107), CFG.ENC (R110)
and CFG.DEC (R111). Their checksum uses `crc32` with a private accumulator: neither command reads or
writes `ACC` (R116). -/

namespace Sys2Proof.Machine

/-! CFG.ENC -/

/-- The 26 payload bytes of the record registers (41_config_codec.md R105): constant version and
command bytes, then the raw axis and button bytes. `REC_VERSION` is not read (R110). -/
def State.payload (s : State) : List Byte :=
  [Config.supportedVersion, Config.cmdSetConfig] ++ s.axis.toList ++ s.btn.toList

/-- A payload followed by its checksum, least significant byte first (41_config_codec.md R106). -/
def withChecksum (p : List Byte) : List Byte := p ++ le32 (crc32 p)

/-- The record is well-shaped (10_state.md R29): the one test of CFG.ENC (60_exceptions.md R162). -/
def State.wellShaped (s : State) : Bool :=
  s.recNax.toNat == Config.nAxes && s.recNbt.toNat == Config.nButtons

/-- What a successful CFG.ENC writes besides `RESULT` (41_config_codec.md R110). -/
def State.storeImage (s : State) : State :=
  { s with
    buf := s.buf.writeBytes 0 (withChecksum s.payload)
    bufLen := BitVec.ofNat 7 Config.encLen }

/-- CFG.ENC (41_config_codec.md R110). -/
def execCfgEnc (s : State) : Outcome :=
  if s.wellShaped then succeed s.storeImage else raiseError .invalidRecordShape s

/-! CFG.DEC -/

/-- `DEC_VERIFY_CRC = 1` and a checksum is present, and it differs from the computed one
(41_config_codec.md R111, 60_exceptions.md R164). -/
def State.checksumBad (s : State) : Bool :=
  s.decVerifyCrc && Config.wireLen ≤ s.bufLen.toNat &&
    fromLe32 (s.bufGet 27#6) (s.bufGet 28#6) (s.bufGet 29#6) (s.bufGet 30#6)
      != crc32 (s.bufBytes 1 Config.payloadLen)

/-- The tests of CFG.DEC in their fixed order; the first that fails is reported
(60_exceptions.md R167). -/
def State.decodeError (s : State) : Option CmdError :=
  if s.bufLen.toNat < 2 then some .shortBuffer
  else if s.bufGet 1#6 ≠ Config.supportedVersion then some .unsupportedVersion
  else if s.bufLen.toNat < Config.decMinLen then some .shortBuffer
  else if s.checksumBad then some .checksumMismatch
  else none

/-- What a successful CFG.DEC writes besides `RESULT` (41_config_codec.md R111): `BUF[0]` and `BUF[2]`
are never examined (R107). -/
def State.loadRecord (s : State) : State :=
  { s with
    recVersion := s.bufGet 1#6
    axis := Vector.ofFn (fun i => s.bufGet (BitVec.ofNat 6 (3 + i.val)))
    btn := Vector.ofFn (fun j => s.bufGet (BitVec.ofNat 6 (11 + j.val)))
    recNax := BitVec.ofNat 8 Config.nAxes
    recNbt := BitVec.ofNat 8 Config.nButtons }

/-- CFG.DEC (41_config_codec.md R111). -/
def execCfgDec (s : State) : Outcome :=
  match s.decodeError with
  | some e => raiseError e s
  | none => succeed s.loadRecord

end Sys2Proof.Machine
end

