-- ==== Sys2Proof/Machine/Registers.lean ====
section
/-! DEFINITION. Plain register reads and writes (42_register_access.md R130 to R144): reads zero-extend
and change no state, writes store the truncated data in one register; none changes `RESULT`. -/

namespace Sys2Proof.Machine

/-- RD.RESULT (42_register_access.md R130): reading does not clear the code. -/
def execRdResult (s : State) : Outcome := respond s (zext32 s.result)

/-- RD.BUFLEN (42_register_access.md R131). -/
def execRdBuflen (s : State) : Outcome := respond s (zext32 s.bufLen)

/-- WR.BUFLEN (42_register_access.md R132): `BUF_LEN <- min(v, 64)`. -/
def execWrBuflen (v : Byte) (s : State) : Outcome := .next { s with bufLen := clampLen v }

/-- RD.RVER (42_register_access.md R133). -/
def execRdRver (s : State) : Outcome := respond s (zext32 s.recVersion)

/-- WR.RVER (42_register_access.md R134). -/
def execWrRver (v : Byte) (s : State) : Outcome := .next { s with recVersion := v }

/-- RD.NAX (42_register_access.md R135). -/
def execRdNax (s : State) : Outcome := respond s (zext32 s.recNax)

/-- WR.NAX (42_register_access.md R136): stored without clamping. -/
def execWrNax (v : Byte) (s : State) : Outcome := .next { s with recNax := v }

/-- RD.NBT (42_register_access.md R137). -/
def execRdNbt (s : State) : Outcome := respond s (zext32 s.recNbt)

/-- WR.NBT (42_register_access.md R138): stored without clamping. -/
def execWrNbt (v : Byte) (s : State) : Outcome := .next { s with recNbt := v }

/-- RD.AXIS (42_register_access.md R139). -/
def execRdAxis (i : AxisIdx) (s : State) : Outcome := respond s (zext32 (s.axisGet i))

/-- WR.AXIS (42_register_access.md R140): no range check. -/
def execWrAxis (i : AxisIdx) (v : Byte) (s : State) : Outcome := .next (s.axisPut i v)

/-- RD.BTN (42_register_access.md R141). -/
def execRdBtn (j : BtnIdx) (s : State) : Outcome := respond s (zext32 (s.btnGet j))

/-- WR.BTN (42_register_access.md R142): no range check. -/
def execWrBtn (j : BtnIdx) (v : Byte) (s : State) : Outcome := .next (s.btnPut j v)

/-- RD.BUF (42_register_access.md R143): whatever `BUF_LEN` is. -/
def execRdBuf (k : BufIdx) (s : State) : Outcome := respond s (zext32 (s.bufGet k))

/-- WR.BUF (42_register_access.md R144): `BUF_LEN` is not changed. -/
def execWrBuf (k : BufIdx) (v : Byte) (s : State) : Outcome := .next (s.bufPut k v)

end Sys2Proof.Machine
end

