-- ==== Sys2Proof/Machine/Reserved.lean ====
section
/-! DEFINITION. The reserved space: reserved commands (30_encoding.md R66) and reserved accesses
(20_memory.md R46; log entry 8). Nothing here traps (30_encoding.md R67). -/

namespace Sys2Proof.Machine

/-- CMD.RSVD (30_encoding.md R66): the IllegalCommand outcome, whatever the opcode. -/
def execCmdRsvd (s : State) : Outcome := raiseError .illegalCommand s

/-- WR.RSVD (20_memory.md R46): "A reserved write is ignored." -/
def execWrRsvd (s : State) : Outcome := .next s

/-- RD.RSVD (20_memory.md R46): "A reserved read returns `0x00000000`." -/
def execRdRsvd (s : State) : Outcome := respond s 0x00000000#32

end Sys2Proof.Machine
end

