-- ==== Sys2Proof/Machine/Dispatch.lean ====
section
/-! DEFINITION. One arm per instruction, each a call of that instruction's own meaning. -/

namespace Sys2Proof.Machine

def exec (i : Instr) (s : State) : Host.Outcome State Fault Refusal :=
  match i with
  | .crcInit => Sys2Proof.Machine.execCrcInit s
  | .cfgEnc => Sys2Proof.Machine.execCfgEnc s
  | .cfgDec => Sys2Proof.Machine.execCfgDec s
  | .cmdRsvd _ => Sys2Proof.Machine.execCmdRsvd s
  | .wrAcc v => Sys2Proof.Machine.execWrAcc v s
  | .crcUpd b => Sys2Proof.Machine.execCrcUpd b s
  | .wrTblidx v => Sys2Proof.Machine.execWrTblidx v s
  | .wrBuflen v => Sys2Proof.Machine.execWrBuflen v s
  | .wrRver v => Sys2Proof.Machine.execWrRver v s
  | .wrNax v => Sys2Proof.Machine.execWrNax v s
  | .wrNbt v => Sys2Proof.Machine.execWrNbt v s
  | .wrAxis n v => Sys2Proof.Machine.execWrAxis n v s
  | .wrBtn j v => Sys2Proof.Machine.execWrBtn j v s
  | .wrBuf k v => Sys2Proof.Machine.execWrBuf k v s
  | .rdResult => Sys2Proof.Machine.execRdResult s
  | .rdAcc => Sys2Proof.Machine.execRdAcc s
  | .crcFin => Sys2Proof.Machine.execCrcFin s
  | .rdTblidx => Sys2Proof.Machine.execRdTblidx s
  | .rdTbl => Sys2Proof.Machine.execRdTbl s
  | .rdBuflen => Sys2Proof.Machine.execRdBuflen s
  | .rdRver => Sys2Proof.Machine.execRdRver s
  | .rdNax => Sys2Proof.Machine.execRdNax s
  | .rdNbt => Sys2Proof.Machine.execRdNbt s
  | .rdAxis n => Sys2Proof.Machine.execRdAxis n s
  | .rdBtn j => Sys2Proof.Machine.execRdBtn j s
  | .rdBuf k => Sys2Proof.Machine.execRdBuf k s
  | .wrRsvd _ => Sys2Proof.Machine.execWrRsvd s
  | .rdRsvd _ => Sys2Proof.Machine.execRdRsvd s

end Sys2Proof.Machine
end

