-- ==== Sys2Proof/Machine/Step.lean ====
section
/-! DEFINITION. One step: the next transaction word of the run is taken from the port, decoded and
performed whole (00_scope.md R10, R13; 20_memory.md R47 a). -/

namespace Sys2Proof.Machine

/-- One step of the machine. With no word pending the host issues no transaction, and "Nothing in
CRCCFG changes state between host transactions" (00_scope.md R10): the state stays as it is (log
entry 2, DESIGN CHOICE, safe). -/
def step (s : State) : Host.Outcome State Fault Refusal :=
  match fetch s with
  | none => .next s
  | some (t, s') => exec (decode t) s'

/-- `s` with the word numbered `w` issued next by the host, before every word already pending
(log entry 1); a number that is no 40-bit word issues nothing (log entry 10). -/
def State.withFetchWord (s : State) (nbits w : Nat) : State :=
  match tableTxn nbits w with
  | some t => s.issue t
  | none => s

end Sys2Proof.Machine
end

