-- ==== Sys2Proof/Machine/Assembler.lean ====
section
/-! DEFINITION. The assembler's names: register names (30_encoding.md R68, 20_memory.md R41) and the
expansions of the pseudo-instructions (30_encoding.md R69). -/

namespace Sys2Proof.Machine

/-- The address of a register name (20_memory.md R41). -/
def regAddr : Reg → Addr
  | .cmd => 0x00#7
  | .result => 0x01#7
  | .crcAcc => 0x02#7
  | .crcData => 0x03#7
  | .crcSum => 0x04#7
  | .tblIdx => 0x05#7
  | .tblData => 0x06#7
  | .bufLen => 0x07#7
  | .recVersion => 0x08#7
  | .recNax => 0x09#7
  | .recNbt => 0x0A#7
  | .axis i => axisAddr i
  | .btn j => btnAddr j
  | .buf k => bufAddr k
  | .bare a => a

/-- The word of a generic line `WR <reg>, <value>` or `RD <reg>` (30_encoding.md R62, R68). -/
def asmWord : AsmLine → Txn
  | .wr r v => txn true (regAddr r) v
  | .rd r => txn false (regAddr r) 0#32

/-- The expansion of a pseudo-instruction, in the order R69 shows. -/
def expand : Pseudo → List Instr
  | .crcStream bs => [.crcInit] ++ bs.map .crcUpd ++ [.crcFin]
  | .recLoad v axes btns =>
    [.wrRver v] ++ (axes.toList.mapIdx (fun i a => .wrAxis (BitVec.ofNat 3 i) a)) ++
      (btns.toList.mapIdx (fun j b => .wrBtn (BitVec.ofNat 4 j) b)) ++ [.wrNax 8#8, .wrNbt 16#8]
  | .recDump =>
    [.rdRver, .rdNax, .rdNbt] ++ ((List.range 8).map (fun i => .rdAxis (BitVec.ofNat 3 i))) ++
      ((List.range 16).map (fun j => .rdBtn (BitVec.ofNat 4 j)))
  | .bufLoad bs =>
    (bs.mapIdx (fun k b => .wrBuf (BitVec.ofNat 6 k) b)) ++ [.wrBuflen (BitVec.ofNat 8 bs.length)]
  | .bufDump n => [.rdBuflen] ++ (List.range n).map (fun k => .rdBuf (BitVec.ofNat 6 k))
  | .encode => [.cfgEnc, .rdResult]
  | .decode => [.cfgDec, .rdResult]

end Sys2Proof.Machine
end

