-- ==== Sys2Proof/Machine/Record.lean ====
section
/-! DEFINITION. The source's own view of the codec: the ConfigurationRecord (41_config_codec.md R100),
the pure functions `encode` and `decode` over byte sequences (R108, R109), the images (R106, R107) and
the record the registers denote (10_state.md R29). The commands are written from R110 and R111, not from
these; that they agree is a statement. -/

namespace Sys2Proof.Machine

/-- The ConfigurationRecord (41_config_codec.md R100): codes are integers, and a sequence of a wrong
length is a value of the type, which `encode` must reject. -/
structure ConfigRecord where
  version : Byte
  axes : List Int
  buttons : List Int
  deriving DecidableEq, Repr

/-- `encode` (41_config_codec.md R108): `r.version` is not consulted. -/
def encodeRecord (r : ConfigRecord) : Except CmdError (List Byte) :=
  if r.axes.length ≠ 8 ∨ r.buttons.length ≠ 16 then .error .invalidRecordShape
  else
    let p := [0x01#8, 0x00#8] ++ r.axes.map u8 ++ r.buttons.map u8
    .ok (p ++ le32 (crc32 p))

/-- `decode` (41_config_codec.md R109) with the parameter `DEC_VERIFY_CRC`. -/
def decodeRecord (verify : Bool) (buf : List Byte) : Except CmdError ConfigRecord :=
  if buf.length < 2 then .error .shortBuffer
  else if buf.getD 1 0 ≠ 0x01#8 then .error .unsupportedVersion
  else if buf.length < 27 then .error .shortBuffer
  else if verify = true ∧ 31 ≤ buf.length ∧
      fromLe32 (buf.getD 27 0) (buf.getD 28 0) (buf.getD 29 0) (buf.getD 30 0)
        ≠ crc32 ((buf.drop 1).take 26) then .error .checksumMismatch
  else .ok
    { version := buf.getD 1 0
      axes := ((buf.drop 3).take 8).map s8
      buttons := ((buf.drop 11).take 16).map s8 }

/-- The write-path wire image: the report ID byte in front of the encode image
(41_config_codec.md R107); the transport puts it there (R115). -/
def wireImage (encodeImage : List Byte) : List Byte := Config.reportId :: encodeImage

/-- The source record that the registers denote when the record is well-shaped (10_state.md R29). -/
def State.record (s : State) : ConfigRecord where
  version := s.recVersion
  axes := s.axis.toList.map s8
  buttons := s.btn.toList.map s8

/-- The host has loaded the source record `r`, of whatever lengths, into the registers: the declared
lengths are those of `r`, and each register below both its length and the file's size holds the raw
byte of its code (10_state.md R26, R29; log entry 12). -/
def State.holds (s : State) (r : ConfigRecord) : Prop :=
  s.recVersion = r.version ∧ s.recNax.toNat = r.axes.length ∧ s.recNbt.toNat = r.buttons.length ∧
    (∀ (i : AxisIdx) (n : Int), r.axes[i.toNat]? = some n → s.axisGet i = u8 n) ∧
    (∀ (j : BtnIdx) (n : Int), r.buttons[j.toNat]? = some n → s.btnGet j = u8 n)

end Sys2Proof.Machine
end

