-- ==== Sys2Proof/Machine/RegisterMap.lean ====
section
/-! DEFINITION. The register map read straight from its table (20_memory.md R41, R42, R46), as a
function of the address. `exec` is not written from it; that the two agree is a statement. -/

namespace Sys2Proof.Machine

/-- What a read at address `a` returns (20_memory.md R41, column "read returns"). -/
def mapRead (s : State) (a : Addr) : Word :=
  if a = 0x01#7 then zext32 s.result
  else if a = 0x02#7 then s.acc
  else if a = 0x04#7 then ~~~s.acc
  else if a = 0x05#7 then zext32 s.tblIdx
  else if a = 0x06#7 then tableEntry s.tblIdx
  else if a = 0x07#7 then zext32 s.bufLen
  else if a = 0x08#7 then zext32 s.recVersion
  else if a = 0x09#7 then zext32 s.recNax
  else if a = 0x0A#7 then zext32 s.recNbt
  else if 0x10 ≤ a.toNat ∧ a.toNat ≤ 0x17 then zext32 (s.axisGet (BitVec.ofNat 3 (a.toNat - 0x10)))
  else if 0x20 ≤ a.toNat ∧ a.toNat ≤ 0x2F then zext32 (s.btnGet (BitVec.ofNat 4 (a.toNat - 0x20)))
  else if 0x40 ≤ a.toNat then zext32 (s.bufGet (BitVec.ofNat 6 (a.toNat - 0x40)))
  else 0#32

/-- What a write of `d` at an address `a` other than `CMD` leaves (20_memory.md R41, column "write
does"); `CMD` runs a command (30_encoding.md R64) and is no row of this function. -/
def mapWrite (s : State) (a : Addr) (d : Word) : State :=
  if a = 0x02#7 then { s with acc := d }
  else if a = 0x03#7 then { s with acc := crcStep s.acc (dataByte d) }
  else if a = 0x05#7 then { s with tblIdx := dataByte d }
  else if a = 0x07#7 then { s with bufLen := clampLen (dataByte d) }
  else if a = 0x08#7 then { s with recVersion := dataByte d }
  else if a = 0x09#7 then { s with recNax := dataByte d }
  else if a = 0x0A#7 then { s with recNbt := dataByte d }
  else if 0x10 ≤ a.toNat ∧ a.toNat ≤ 0x17 then
    s.axisPut (BitVec.ofNat 3 (a.toNat - 0x10)) (dataByte d)
  else if 0x20 ≤ a.toNat ∧ a.toNat ≤ 0x2F then
    s.btnPut (BitVec.ofNat 4 (a.toNat - 0x20)) (dataByte d)
  else if 0x40 ≤ a.toNat then s.bufPut (BitVec.ofNat 6 (a.toNat - 0x40)) (dataByte d)
  else s

end Sys2Proof.Machine
end

