-- ==== Sys2Proof/Safety.lean ====
section
/-! DEFINITION. What a safe state and a safe step are, and the words the statements use for what an
instruction may touch. -/

namespace Sys2Proof

open Sys2Proof.Machine

/-- The invariant of every reachable state: the buffer's cells in canonical form, `BUF_LEN` at most 64
(10_state.md R30), `RESULT` a defined code (60_exceptions.md R161), and no ChecksumMismatch where the
checksum is never verified (60_exceptions.md R164). -/
structure Inv (s : State) : Prop where
  buf_wf : Memory.wf s.buf
  bufLen_le : s.bufLen.toNat ≤ Config.bufSize
  result_code : s.result ∈ resultCodes
  result_verify : s.decVerifyCrc = false → s.result ≠ CmdError.checksumMismatch.code

/-- A safe outcome: the step goes on (00_scope.md R12). -/
def SafeOutcome (o : Outcome) : Prop := ∃ t, o = .next t

/-- The byte an instruction absorbs into `ACC`, if it is a CRC.UPD (40_crc_engine.md R86). -/
def absorbed : Instr → Option Byte
  | .crcUpd b => some b
  | _ => none

/-- The instructions that set `ACC` without regard to its old value (40_crc_engine.md R93). -/
def setsAcc : Instr → Bool
  | .crcInit => true
  | .wrAcc _ => true
  | _ => false

/-- The instructions that are a write to `CMD` (30_encoding.md R64). -/
def isCommand : Instr → Bool
  | .crcInit => true
  | .cfgEnc => true
  | .cfgDec => true
  | .cmdRsvd _ => true
  | _ => false

/-- The instructions that can write the buffer byte `k` (10_state.md R30): a CFG.ENC writes bytes 0 to
29. -/
def mayWriteBuf (k : BufIdx) : Instr → Bool
  | .wrBuf k' _ => k == k'
  | .cfgEnc => k.toNat < Config.encLen
  | _ => false

end Sys2Proof
end

