-- ==== Sys2Proof/Certificates/Slice0/Obligations.lean ====
section
/-! DEFINITION. The statements about CRCCFG, in the order of the spec's files. A data field whose high
bits are ignored is written `hi ++ b` with `hi` arbitrary, so that such a statement holds for every word
of the row. -/

open Sys2Proof Sys2Proof.Machine

/-! ## Encoding (30_encoding.md) -/

/-- 30_encoding.md R60, R65: no bit of an operand is dropped by either direction. -/
def Obligations.DecodeOfEncodeIsIdentity : Prop :=
  ∀ i : Instr, i.wellFormed = true → decode (encode i) = i

/-- 30_encoding.md R65, R66, 20_memory.md R46: the decoder yields a reserved row only for an opcode or
address that no earlier row takes. -/
def Obligations.DecodeYieldsWellFormed : Prop :=
  ∀ t : Txn, (decode t).wellFormed = true

/-- 30_encoding.md R65: "every one of the 2^40 words matches exactly one first row", and "among rows 5
to 26 no two overlap". -/
def Obligations.OpcodeRowsTotalAndDisjoint : Prop :=
  (∀ t : Txn, ∃ r ∈ rows, r.hits t = true) ∧
  (writeRows ++ readRows).Pairwise (fun r r' => ∀ t : Txn, ¬ (r.hits t = true ∧ r'.hits t = true))

/-- 30_encoding.md R62. -/
def Obligations.ReadDataFieldIgnored : Prop :=
  (∀ (a : Addr) (d d' : Word), decode (txn false a d) = decode (txn false a d')) ∧
  (∀ r : Reg, fieldD (asmWord (.rd r)) = 0#32)

/-- 30_encoding.md R63 (b): bits `D[31:8]` of a write to an 8-bit register, `BUF_LEN`, `CRC_DATA` or `CMD`
are ignored. For a reserved write (20_memory.md R46, 30_encoding.md R65 row 27) that its data are no
operand is the model's inference (log entry 6, DEDUCED): R46 ignores the write whole. -/
def Obligations.NarrowWriteHighBitsIgnored : Prop :=
  ∀ (a : Addr) (hi hi' : BitVec 24) (b : Byte), a ≠ 0x02#7 →
    decode (txn true a (hi ++ b)) = decode (txn true a (hi' ++ b))

/-- Words the spec prints (40_crc_engine.md, 41_config_codec.md and 42_register_access.md examples;
95_test_vectors.md section 2.7), one or more of every family. -/
def Obligations.DecodeKnownWords : Prop :=
  decode 0x8000000001#40 = .crcInit ∧
  decode 0x8000000002#40 = .cfgEnc ∧
  decode 0x8000000003#40 = .cfgDec ∧
  decode 0x80000000AA#40 = .cmdRsvd 0xAA#8 ∧
  decode 0x8300000031#40 = .crcUpd 0x31#8 ∧
  decode 0x8212345678#40 = .wrAcc 0x12345678#32 ∧
  decode 0x8500000180#40 = .wrTblidx 0x80#8 ∧
  decode 0x87000000C8#40 = .wrBuflen 200#8 ∧
  decode 0x94FFFFFFFF#40 = .wrAxis 4#3 0xFF#8 ∧
  decode 0xA70000000A#40 = .wrBtn 7#4 0x0A#8 ∧
  decode 0xFF000000A5#40 = .wrBuf 63#6 0xA5#8 ∧
  decode 0x01DEADBEEF#40 = .rdResult ∧
  decode 0x0400000000#40 = .crcFin ∧
  decode 0x2700000000#40 = .rdBtn 7#4 ∧
  decode 0x5A00000000#40 = .rdBuf 26#6 ∧
  decode 0x9800000055#40 = .wrRsvd 0x18#7 ∧
  decode 0x0300000000#40 = .rdRsvd 0x03#7

/-- 30_encoding.md R68: each specific mnemonic is the same transaction as its generic form. -/
def Obligations.GenericFormsAreTheirMnemonics : Prop :=
  decode (asmWord (.wr .cmd 0x01#32)) = .crcInit ∧
  decode (asmWord (.wr .cmd 0x02#32)) = .cfgEnc ∧
  decode (asmWord (.wr .cmd 0x03#32)) = .cfgDec ∧
  (∀ v : Word, decode (asmWord (.wr .crcData v)) = .crcUpd (dataByte v)) ∧
  decode (asmWord (.rd .crcSum)) = .crcFin ∧
  (∀ v : Word, decode (asmWord (.wr .crcAcc v)) = .wrAcc v) ∧
  decode (asmWord (.rd .crcAcc)) = .rdAcc ∧
  (∀ v : Word, decode (asmWord (.wr .tblIdx v)) = .wrTblidx (dataByte v)) ∧
  decode (asmWord (.rd .tblIdx)) = .rdTblidx ∧
  decode (asmWord (.rd .tblData)) = .rdTbl ∧
  decode (asmWord (.rd .result)) = .rdResult ∧
  (∀ v : Word, decode (asmWord (.wr .bufLen v)) = .wrBuflen (dataByte v)) ∧
  decode (asmWord (.rd .bufLen)) = .rdBuflen ∧
  (∀ v : Word, decode (asmWord (.wr .recVersion v)) = .wrRver (dataByte v)) ∧
  decode (asmWord (.rd .recVersion)) = .rdRver ∧
  (∀ v : Word, decode (asmWord (.wr .recNax v)) = .wrNax (dataByte v)) ∧
  decode (asmWord (.rd .recNax)) = .rdNax ∧
  (∀ v : Word, decode (asmWord (.wr .recNbt v)) = .wrNbt (dataByte v)) ∧
  decode (asmWord (.rd .recNbt)) = .rdNbt ∧
  (∀ (i : AxisIdx) (v : Word), decode (asmWord (.wr (.axis i) v)) = .wrAxis i (dataByte v)) ∧
  (∀ i : AxisIdx, decode (asmWord (.rd (.axis i))) = .rdAxis i) ∧
  (∀ (j : BtnIdx) (v : Word), decode (asmWord (.wr (.btn j) v)) = .wrBtn j (dataByte v)) ∧
  (∀ j : BtnIdx, decode (asmWord (.rd (.btn j))) = .rdBtn j) ∧
  (∀ (k : BufIdx) (v : Word), decode (asmWord (.wr (.buf k) v)) = .wrBuf k (dataByte v)) ∧
  (∀ k : BufIdx, decode (asmWord (.rd (.buf k))) = .rdBuf k)

/-! ## The step (00_scope.md) -/

/-- 00_scope.md R10, R13: a step applies the next word of the run, by the row that decodes it, and takes
it from the words still to come. -/
def Obligations.StepRunsDecodedInstruction : Prop :=
  ∀ (s : State) (t : Txn) (rest : List Txn), s.pending = t :: rest →
    step s = exec (decode t) { s with pending := rest }

/-- The model's choice (log entry 2, resting on 00_scope.md R10's "Nothing in CRCCFG changes state
between host transactions"): with no word to apply, a step changes nothing. -/
def Obligations.IdleStepChangesNothing : Prop :=
  ∀ s : State, s.pending = [] → step s = .next s

/-- 00_scope.md R12: "every transaction completes and the next one is accepted". Where no word is to come,
that the step goes on is the model's choice (log entry 2). -/
def Obligations.EveryStepGoesOn : Prop :=
  ∀ s : State, SafeOutcome (step s)

/-- 00_scope.md R7, R13: no instruction changes the open parameter or the words still to come. -/
def Obligations.ParameterAndRunUntouchedByInstructions : Prop :=
  ∀ (i : Instr) (s t : State), exec i s = .next t →
    t.decVerifyCrc = s.decVerifyCrc ∧ t.pending = s.pending

/-- 00_scope.md R11. -/
def Obligations.SignedViewOfCodes : Prop :=
  (∀ b : Byte, s8 b = b.toInt) ∧ (∀ b : Byte, u8 (s8 b) = b) ∧
  (∀ n : Int, -128 ≤ n → n ≤ 127 → s8 (u8 n) = n) ∧ (∀ n : Int, ((u8 n).toNat : Int) = n % 256)

/-! ## Reset (70_reset_and_hazards.md, 10_state.md) -/

/-- 70_reset_and_hazards.md R181, for both values of the open parameter: the table of values, and the
four consequences it lists. The model's own fields `pending` and `responses` are not in it. R181 says of
`TABLE` "the constants of `40_crc_engine.md` rule R81"; the clause on `tableEntry` says them by R80's
formula, which the spec marks as general knowledge (log entry 9, PRESUMED). -/
def Obligations.ResetState : Prop :=
  ∀ v : Bool,
    let s := State.resetOf v
    s.acc = 0xFFFFFFFF#32 ∧ s.tblIdx = 0x00#8 ∧ s.result = 0x00#8 ∧ s.recVersion = 0x00#8 ∧
    s.recNax = 0x00#8 ∧ s.recNbt = 0x00#8 ∧ (∀ i, s.axisGet i = 0x00#8) ∧ (∀ j, s.btnGet j = 0x00#8) ∧
    (∀ k, s.bufGet k = 0x00#8) ∧ s.bufLen = 0#7 ∧
    (∀ i : Byte, tableEntry i = tableFormula i) ∧
    exec .crcFin s = .next { s with responses := s.responses ++ [0x00000000#32] } ∧
    exec .rdTbl s = .next { s with responses := s.responses ++ [0x00000000#32] } ∧
    exec .cfgEnc s = .next { s with result := 0x01#8 } ∧
    exec .cfgDec s = .next { s with result := 0x04#8 }

/-- `Inv` holds at reset, for both values of the open parameter: `BUF_LEN` at most 64 and `RESULT` a defined
code, by the reset values of 70_reset_and_hazards.md R181. That the buffer is a list of cells in
canonical form is the model's choice (log entry 5, DESIGN CHOICE), not a rule of the spec. -/
def Obligations.InvariantAtReset : Prop :=
  ∀ v : Bool, Inv (State.resetOf v)

/-- 10_state.md R30 (`BUF_LEN` at most 64), 60_exceptions.md R161 and R164 (`RESULT` a defined code,
never ChecksumMismatch when nothing is verified), kept by every step from every state. The further
clause of `Inv`, `Memory.wf`, the canonical form of the buffer's cells, is the model's choice (log
entry 5, DESIGN CHOICE), not a rule of the spec. -/
def Obligations.InvariantKeptByStep : Prop :=
  ∀ s t : State, Inv s → step s = .next t → Inv t

/-- 10_state.md R24: nothing but a write to `CMD` writes `RESULT`. -/
def Obligations.OnlyCommandsWriteResult : Prop :=
  ∀ (i : Instr) (s t : State), exec i s = .next t → isCommand i = false → t.result = s.result

/-! ## The register map (20_memory.md) -/

/-- 20_memory.md R41, R42, R46, R47 (b), 30_encoding.md R61: a read transaction, at every address,
answers what the register map says and changes nothing else. -/
def Obligations.ReadsFollowRegisterMap : Prop :=
  ∀ (s : State) (a : Addr) (d : Word) (rest : List Txn), s.pending = txn false a d :: rest →
    step s = .next { s with pending := rest, responses := s.responses ++ [mapRead s a] }

/-- 20_memory.md R41, R42, R46: a write transaction, at every address but `CMD`, does what the register
map says, and has no response (30_encoding.md R61). -/
def Obligations.WritesFollowRegisterMap : Prop :=
  ∀ (s : State) (a : Addr) (d : Word) (rest : List Txn), a ≠ 0x00#7 →
    s.pending = txn true a d :: rest → step s = .next (mapWrite { s with pending := rest } a d)

/-- 20_memory.md R46: the reserved accesses, listed address by address. -/
def Obligations.ReservedAccessesDoNothing : Prop :=
  (∀ (s : State) (a : Addr) (d : Word),
    (a = 0x00#7 ∨ a = 0x03#7 ∨ (0x0B#7 ≤ a ∧ a ≤ 0x0F#7) ∨ (0x18#7 ≤ a ∧ a ≤ 0x1F#7) ∨
      (0x30#7 ≤ a ∧ a ≤ 0x3F#7)) →
    decode (txn false a d) = .rdRsvd a ∧
    exec (.rdRsvd a) s = .next { s with responses := s.responses ++ [0x00000000#32] }) ∧
  (∀ (s : State) (a : Addr) (d : Word),
    (a = 0x01#7 ∨ a = 0x04#7 ∨ a = 0x06#7 ∨ (0x0B#7 ≤ a ∧ a ≤ 0x0F#7) ∨ (0x18#7 ≤ a ∧ a ≤ 0x1F#7) ∨
      (0x30#7 ≤ a ∧ a ≤ 0x3F#7)) →
    decode (txn true a d) = .wrRsvd a ∧ exec (.wrRsvd a) s = .next s)

/-- 20_memory.md R47 (b), 30_encoding.md R61: a read changes no state but the responses, of which it
adds one; a write has no response. -/
def Obligations.ReadsAreFreeOfSideEffects : Prop :=
  ∀ (i : Instr) (s t : State), exec i s = .next t →
    (i.isWrite = false → ∃ v : Word, t = { s with responses := s.responses ++ [v] }) ∧
    (i.isWrite = true → t.responses = s.responses)

/-- 20_memory.md R49: "a read after a write to the same register returns the written ... value unless a
command or another write changed it in between", for a buffer byte: whatever words come between, if none
of them may write that byte, the later read answers the value written. -/
def Obligations.BufferReadAfterWrite : Prop :=
  ∀ (s : State) (k : BufIdx) (hi : BitVec 24) (v : Byte) (d : Word) (ts rest : List Txn),
    s.pending = txn true (0x40#7 ||| k.setWidth 7) (hi ++ v) ::
      (ts ++ txn false (0x40#7 ||| k.setWidth 7) d :: rest) →
    (∀ t ∈ ts, mayWriteBuf k (decode t) = false) →
    ∃ u : State, Host.Core.run Sys2Proof.core (ts.length + 2) s = .next u ∧ u.pending = rest ∧
      u.bufGet k = v ∧ u.responses.getLast? = some (v.setWidth 32)

/-- 20_memory.md R43, 00_scope.md R9: the checksum's bytes, least significant first, read back as the
checksum. -/
def Obligations.ChecksumBytesLittleEndian : Prop :=
  ∀ c : Word, (le32 c).length = 4 ∧
    fromLe32 ((le32 c).getD 0 0) ((le32 c).getD 1 0) ((le32 c).getD 2 0) ((le32 c).getD 3 0) = c ∧
    (le32 c).getD 0 0 = c.setWidth 8 ∧ (le32 c).getD 3 0 = (c >>> 24).setWidth 8

/-! ## The CRC engine (40_crc_engine.md) -/

/-- 40_crc_engine.md R80: every printed entry is eight applications of `g`. -/
def Obligations.TableMatchesFormula : Prop :=
  ∀ i : Byte, tableEntry i = tableFormula i

/-- 40_crc_engine.md R81: "the table is linear over exclusive or". -/
def Obligations.TableLinearOverXor : Prop :=
  ∀ i j : Byte, tableEntry (i ^^^ j) = tableEntry i ^^^ tableEntry j

/-- 40_crc_engine.md R84: the consequences (a), (b) in its two forms, (c), (d) and (e), in that order. -/
def Obligations.CrcConsequences : Prop :=
  crc32 [] = 0x00000000#32 ∧
  (∀ (bs : List Byte) (b : Byte), crcAcc (bs ++ [b]) = crcStep (crcAcc bs) b) ∧
  (∀ xs ys : List Byte, crcAcc (xs ++ ys) = ys.foldl crcStep (crcAcc xs)) ∧
  (∀ i : Byte, tableEntry i = crcStep 0x00000000#32 i) ∧
  (∀ bs bs' : List Byte, bs = bs' → crc32 bs = crc32 bs') ∧
  crc32 [0x31#8, 0x32#8, 0x33#8, 0x34#8, 0x35#8, 0x36#8, 0x37#8, 0x38#8, 0x39#8] = 0xCBF43926#32

/-- What the checksum is for (derived from 40_crc_engine.md R82, R83): two sequences that differ in
exactly one byte have different checksums. -/
def Obligations.OneChangedByteChangesChecksum : Prop :=
  ∀ (xs ys : List Byte) (b b' : Byte), b ≠ b' → crc32 (xs ++ b :: ys) ≠ crc32 (xs ++ b' :: ys)

/-- 40_crc_engine.md R85. -/
def Obligations.CrcInitStartsChecksum : Prop :=
  ∀ (s : State) (hi : BitVec 24),
    decode (txn true 0x00#7 (hi ++ 0x01#8)) = .crcInit ∧
    exec .crcInit s = .next { s with acc := 0xFFFFFFFF#32, result := 0x00#8 }

/-- 40_crc_engine.md R86, with the table index as R82 restates it, `acc[7:0] xor b`. -/
def Obligations.CrcUpdAbsorbsOneByte : Prop :=
  ∀ (s : State) (hi : BitVec 24) (b : Byte),
    decode (txn true 0x03#7 (hi ++ b)) = .crcUpd b ∧
    exec (.crcUpd b) s
      = .next { s with acc := tableEntry (s.acc.extractLsb' 0 8 ^^^ b) ^^^ (s.acc >>> 8) }

/-- 40_crc_engine.md R87. -/
def Obligations.CrcFinReturnsComplement : Prop :=
  ∀ (s : State) (d : Word),
    decode (txn false 0x04#7 d) = .crcFin ∧
    exec .crcFin s = .next { s with responses := s.responses ++ [~~~s.acc] }

/-- 40_crc_engine.md R88, R89. -/
def Obligations.AccumulatorReadAndLoad : Prop :=
  ∀ (s : State) (d v : Word),
    decode (txn false 0x02#7 d) = .rdAcc ∧
    exec .rdAcc s = .next { s with responses := s.responses ++ [s.acc] } ∧
    decode (txn true 0x02#7 v) = .wrAcc v ∧
    exec (.wrAcc v) s = .next { s with acc := v }

/-- 40_crc_engine.md R90, R91, R92. -/
def Obligations.TableWindow : Prop :=
  ∀ (s : State) (d : Word) (hi : BitVec 24) (v : Byte),
    decode (txn false 0x05#7 d) = .rdTblidx ∧
    exec .rdTblidx s = .next { s with responses := s.responses ++ [s.tblIdx.setWidth 32] } ∧
    decode (txn true 0x05#7 (hi ++ v)) = .wrTblidx v ∧
    exec (.wrTblidx v) s = .next { s with tblIdx := v } ∧
    decode (txn false 0x06#7 d) = .rdTbl ∧
    exec .rdTbl s = .next { s with responses := s.responses ++ [tableEntry s.tblIdx] }

/-- 40_crc_engine.md R93: a stream of any length, with any words between its bytes that do not set `ACC`
anew, ends in `crc32` of exactly the bytes absorbed; straight after reset the CRC.INIT may be omitted. -/
def Obligations.StreamingComputesCrc32 : Prop :=
  (∀ (s : State) (hi : BitVec 24) (d : Word) (ts rest : List Txn),
    s.pending = txn true 0x00#7 (hi ++ 0x01#8) :: (ts ++ txn false 0x04#7 d :: rest) →
    (∀ t ∈ ts, setsAcc (decode t) = false) →
    ∃ u : State, Host.Core.run Sys2Proof.core (ts.length + 2) s = .next u ∧ u.pending = rest ∧
      u.acc = crcAcc (ts.filterMap (fun t => absorbed (decode t))) ∧
      u.responses.getLast? = some (crc32 (ts.filterMap (fun t => absorbed (decode t))))) ∧
  (∀ (v : Bool) (d : Word) (ts rest : List Txn),
    (∀ t ∈ ts, setsAcc (decode t) = false) →
    ∃ u : State, Host.Core.run Sys2Proof.core (ts.length + 1)
        { State.resetOf v with pending := ts ++ txn false 0x04#7 d :: rest } = .next u ∧
      u.pending = rest ∧ u.acc = crcAcc (ts.filterMap (fun t => absorbed (decode t))) ∧
      u.responses.getLast? = some (crc32 (ts.filterMap (fun t => absorbed (decode t)))))

/-- 40_crc_engine.md R93, 41_config_codec.md R116: `ACC` changes only by CRC.INIT, CRC.UPD and WR.ACC. -/
def Obligations.OnlyCrcInstructionsWriteAcc : Prop :=
  ∀ (i : Instr) (s t : State), exec i s = .next t →
    i ≠ .crcInit → (∀ b, i ≠ .crcUpd b) → (∀ v, i ≠ .wrAcc v) → t.acc = s.acc

/-! ## The codec (41_config_codec.md) -/

/-- 41_config_codec.md R110, 60_exceptions.md R162: a well-shaped record leaves the payload at 0 to 25,
its checksum at 26 to 29, and every other byte of `BUF` and every other register unchanged; any other
leaves InvalidRecordShape and nothing else. -/
def Obligations.CfgEncEffect : Prop :=
  ∀ (s : State) (hi : BitVec 24),
    decode (txn true 0x00#7 (hi ++ 0x02#8)) = .cfgEnc ∧
    (s.recNax = 8#8 → s.recNbt = 16#8 →
      ∃ t : State, exec .cfgEnc s = .next t ∧
        t.bufGet 0#6 = 0x01#8 ∧ t.bufGet 1#6 = 0x00#8 ∧
        (∀ i : AxisIdx, t.bufGet (2#6 + i.setWidth 6) = s.axisGet i) ∧
        (∀ j : BtnIdx, t.bufGet (10#6 + j.setWidth 6) = s.btnGet j) ∧
        [t.bufGet 26#6, t.bufGet 27#6, t.bufGet 28#6, t.bufGet 29#6] = le32 (crc32 (t.bufBytes 0 26)) ∧
        (∀ k : BufIdx, 30 ≤ k.toNat → t.bufGet k = s.bufGet k) ∧
        t = { s with buf := t.buf, bufLen := 30#7, result := 0x00#8 }) ∧
    (s.recNax ≠ 8#8 ∨ s.recNbt ≠ 16#8 → exec .cfgEnc s = .next { s with result := 0x01#8 })

/-- 41_config_codec.md R111: the tests in their order, what the first that fails leaves (its code in
`RESULT`, nothing else), and what a CFG.DEC that passes them all leaves. -/
def Obligations.CfgDecEffect : Prop :=
  ∀ (s : State) (hi : BitVec 24),
    decode (txn true 0x00#7 (hi ++ 0x03#8)) = .cfgDec ∧
    if s.bufLen.toNat < 2 then exec .cfgDec s = .next { s with result := 0x04#8 }
    else if s.bufGet 1#6 ≠ 0x01#8 then exec .cfgDec s = .next { s with result := 0x02#8 }
    else if s.bufLen.toNat < 27 then exec .cfgDec s = .next { s with result := 0x04#8 }
    else if s.decVerifyCrc = true ∧ 31 ≤ s.bufLen.toNat ∧
        fromLe32 (s.bufGet 27#6) (s.bufGet 28#6) (s.bufGet 29#6) (s.bufGet 30#6)
          ≠ crc32 (s.bufBytes 1 26) then exec .cfgDec s = .next { s with result := 0x03#8 }
    else ∃ t : State, exec .cfgDec s = .next t ∧
      (∀ i : AxisIdx, t.axisGet i = s.bufGet (3#6 + i.setWidth 6)) ∧
      (∀ j : BtnIdx, t.btnGet j = s.bufGet (11#6 + j.setWidth 6)) ∧
      t = { s with recVersion := s.bufGet 1#6, recNax := 8#8, recNbt := 16#8, axis := t.axis,
                   btn := t.btn, result := 0x00#8 }

/-- 41_config_codec.md R112, R113, on the pure functions. The codes come back as `s8 (u8 n)`, which is `n`
for every code in -128..127. -/
def Obligations.PureRoundTrip : Prop :=
  ∀ r : ConfigRecord, r.axes.length = 8 → r.buttons.length = 16 → r.version = 0x01#8 →
    ∃ image : List Byte, encodeRecord r = .ok image ∧ image.length = 30 ∧
      image.drop 26 = le32 (crc32 (image.take 26)) ∧
      (∀ (x : Byte) (verify : Bool),
        decodeRecord verify (x :: image.take 26)
          = .ok ⟨0x01#8, r.axes.map (fun n => s8 (u8 n)), r.buttons.map (fun n => s8 (u8 n))⟩ ∧
        decodeRecord verify (x :: image)
          = .ok ⟨0x01#8, r.axes.map (fun n => s8 (u8 n)), r.buttons.map (fun n => s8 (u8 n))⟩) ∧
      ((∀ n ∈ r.axes ++ r.buttons, -128 ≤ n ∧ n ≤ 127) → ∀ (x : Byte) (verify : Bool),
        decodeRecord verify (x :: image.take 26) = .ok r ∧ decodeRecord verify (x :: image) = .ok r)

/-- 41_config_codec.md R112 on the machine (95_test_vectors.md Part 4, 3): CFG.ENC, then its image moved
up by one byte behind any byte, then CFG.DEC, in any other state, for any declared length from 27 and for
both values of the open parameter, succeeds: the axis and button registers and both lengths are those
CFG.ENC read. `REC_VERSION` becomes `0x01` whatever it was before (R110 does not read it), so it too is
restored exactly where it was `0x01`. -/
def Obligations.EncodeThenDecodeRestoresRecord : Prop :=
  ∀ s : State, s.recNax = 8#8 → s.recNbt = 16#8 →
    ∃ t : State, exec .cfgEnc s = .next t ∧ t.result = 0x00#8 ∧
      ∀ u : State, (∀ k : Nat, k < 30 → u.bufGet (BitVec.ofNat 6 (k + 1)) = t.bufGet (BitVec.ofNat 6 k)) →
        27 ≤ u.bufLen.toNat →
        ∃ v : State, exec .cfgDec u = .next v ∧ v.result = 0x00#8 ∧ v.axis = s.axis ∧ v.btn = s.btn ∧
          v.recVersion = 0x01#8 ∧ v.recNax = 8#8 ∧ v.recNbt = 16#8

/-- 41_config_codec.md R108, 10_state.md R29: CFG.ENC is `encode` of the source record the host loaded,
of whatever lengths: the same image or the same error. What it is for the registers to hold a record of
other lengths than 8 and 16, the premise `State.holds`, is the model's inference from R26 and R29 (log
entry 12, DEDUCED). -/
def Obligations.CfgEncIsEncode : Prop :=
  ∀ (s : State) (r : ConfigRecord), s.holds r →
    match encodeRecord r with
    | .ok image => ∃ t : State, exec .cfgEnc s = .next t ∧ t.bufLen = 30#7 ∧ t.bufBytes 0 30 = image ∧
        (∀ k : BufIdx, 30 ≤ k.toNat → t.bufGet k = s.bufGet k) ∧
        t = { s with buf := t.buf, bufLen := 30#7, result := 0x00#8 }
    | .error e => exec .cfgEnc s = .next { s with result := e.code }

/-- 41_config_codec.md R109, R111: CFG.DEC is `decode` of the byte sequence `BUF[0:BUF_LEN]`, for the
lengths `BUF_LEN` can hold (10_state.md R30). -/
def Obligations.CfgDecIsDecode : Prop :=
  ∀ s : State, s.bufLen.toNat ≤ 64 →
    match decodeRecord s.decVerifyCrc (s.bufBytes 0 s.bufLen.toNat) with
    | .ok r => ∃ t : State, exec .cfgDec s = .next t ∧ t.record = r ∧ t.recNax = 8#8 ∧ t.recNbt = 16#8 ∧
        t = { s with recVersion := t.recVersion, recNax := 8#8, recNbt := 16#8, axis := t.axis,
                     btn := t.btn, result := 0x00#8 }
    | .error e => exec .cfgDec s = .next { s with result := e.code }

/-- 41_config_codec.md R114: what each command's outcome depends on. -/
def Obligations.CodecOutcomeDependsOnlyOnItsInputs : Prop :=
  (∀ s s' : State, s.recNax = s'.recNax → s.recNbt = s'.recNbt → s.axis = s'.axis → s.btn = s'.btn →
    ∃ t t' : State, exec .cfgEnc s = .next t ∧ exec .cfgEnc s' = .next t' ∧ t.result = t'.result ∧
      (t.result = 0x00#8 → t.bufLen = t'.bufLen ∧ t.bufBytes 0 30 = t'.bufBytes 0 30)) ∧
  (∀ s s' : State, s.bufLen = s'.bufLen → s.decVerifyCrc = s'.decVerifyCrc →
    s.bufBytes 0 31 = s'.bufBytes 0 31 →
    ∃ t t' : State, exec .cfgDec s = .next t ∧ exec .cfgDec s' = .next t' ∧ t.result = t'.result ∧
      (t.result = 0x00#8 → t.recVersion = t'.recVersion ∧ t.recNax = t'.recNax ∧
        t.recNbt = t'.recNbt ∧ t.axis = t'.axis ∧ t.btn = t'.btn))

/-- Derived from 41_config_codec.md R111 and 60_exceptions.md R164: a buffer whose checksum CFG.DEC
accepted is rejected as a ChecksumMismatch after any change of any one byte from `BUF[2]` to `BUF[30]`. -/
def Obligations.OneChangedByteIsDetected : Prop :=
  ∀ s t : State, s.decVerifyCrc = true → 31 ≤ s.bufLen.toNat → exec .cfgDec s = .next t →
    t.result = 0x00#8 → ∀ (k : BufIdx) (v : Byte), 2 ≤ k.toNat → k.toNat ≤ 30 → v ≠ s.bufGet k →
      exec .cfgDec (s.bufPut k v) = .next { s.bufPut k v with result := 0x03#8 }

/-! ## Plain register access (42_register_access.md) -/

/-- 42_register_access.md R130, R131, R133, R135, R137 (their pseudocode), 20_memory.md R42. -/
def Obligations.RegisterReadsZeroExtend : Prop :=
  ∀ (s : State) (d : Word),
    decode (txn false 0x01#7 d) = .rdResult ∧
    exec .rdResult s = .next { s with responses := s.responses ++ [s.result.setWidth 32] } ∧
    decode (txn false 0x07#7 d) = .rdBuflen ∧
    exec .rdBuflen s = .next { s with responses := s.responses ++ [s.bufLen.setWidth 32] } ∧
    decode (txn false 0x08#7 d) = .rdRver ∧
    exec .rdRver s = .next { s with responses := s.responses ++ [s.recVersion.setWidth 32] } ∧
    decode (txn false 0x09#7 d) = .rdNax ∧
    exec .rdNax s = .next { s with responses := s.responses ++ [s.recNax.setWidth 32] } ∧
    decode (txn false 0x0A#7 d) = .rdNbt ∧
    exec .rdNbt s = .next { s with responses := s.responses ++ [s.recNbt.setWidth 32] }

/-- 42_register_access.md R139, R141, R143 (their pseudocode and encodings), 20_memory.md R42. -/
def Obligations.ArrayReadsZeroExtend : Prop :=
  ∀ (s : State) (d : Word) (i : AxisIdx) (j : BtnIdx) (k : BufIdx),
    decode (txn false (0x10#7 + i.setWidth 7) d) = .rdAxis i ∧
    exec (.rdAxis i) s = .next { s with responses := s.responses ++ [(s.axisGet i).setWidth 32] } ∧
    decode (txn false (0x20#7 + j.setWidth 7) d) = .rdBtn j ∧
    exec (.rdBtn j) s = .next { s with responses := s.responses ++ [(s.btnGet j).setWidth 32] } ∧
    decode (txn false (0x40#7 + k.setWidth 7) d) = .rdBuf k ∧
    exec (.rdBuf k) s = .next { s with responses := s.responses ++ [(s.bufGet k).setWidth 32] }

/-- 42_register_access.md R132. -/
def Obligations.BufLenWriteClamps : Prop :=
  ∀ (s : State) (hi : BitVec 24) (v : Byte),
    decode (txn true 0x07#7 (hi ++ v)) = .wrBuflen v ∧
    ∃ t : State, exec (.wrBuflen v) s = .next t ∧ t.bufLen.toNat = min v.toNat 64 ∧
      t = { s with bufLen := t.bufLen }

/-- 42_register_access.md R134, R136, R138. -/
def Obligations.RecordScalarWrites : Prop :=
  ∀ (s : State) (hi : BitVec 24) (v : Byte),
    decode (txn true 0x08#7 (hi ++ v)) = .wrRver v ∧
    exec (.wrRver v) s = .next { s with recVersion := v } ∧
    decode (txn true 0x09#7 (hi ++ v)) = .wrNax v ∧
    exec (.wrNax v) s = .next { s with recNax := v } ∧
    decode (txn true 0x0A#7 (hi ++ v)) = .wrNbt v ∧
    exec (.wrNbt v) s = .next { s with recNbt := v }

/-- 42_register_access.md R140. -/
def Obligations.AxisWriteChangesOneRegister : Prop :=
  ∀ (s : State) (hi : BitVec 24) (i : AxisIdx) (v : Byte),
    decode (txn true (0x10#7 + i.setWidth 7) (hi ++ v)) = .wrAxis i v ∧
    ∃ t : State, exec (.wrAxis i v) s = .next t ∧ t.axisGet i = v ∧
      (∀ i', i' ≠ i → t.axisGet i' = s.axisGet i') ∧ t = { s with axis := t.axis }

/-- 42_register_access.md R142. -/
def Obligations.ButtonWriteChangesOneRegister : Prop :=
  ∀ (s : State) (hi : BitVec 24) (j : BtnIdx) (v : Byte),
    decode (txn true (0x20#7 + j.setWidth 7) (hi ++ v)) = .wrBtn j v ∧
    ∃ t : State, exec (.wrBtn j v) s = .next t ∧ t.btnGet j = v ∧
      (∀ j', j' ≠ j → t.btnGet j' = s.btnGet j') ∧ t = { s with btn := t.btn }

/-- 42_register_access.md R144. -/
def Obligations.BufferWriteChangesOneByte : Prop :=
  ∀ (s : State) (hi : BitVec 24) (k : BufIdx) (v : Byte),
    decode (txn true (0x40#7 + k.setWidth 7) (hi ++ v)) = .wrBuf k v ∧
    ∃ t : State, exec (.wrBuf k v) s = .next t ∧ t.bufGet k = v ∧
      (∀ k', k' ≠ k → t.bufGet k' = s.bufGet k') ∧ t = { s with buf := t.buf }

/-! ## Errors (60_exceptions.md, 30_encoding.md) -/

/-- 30_encoding.md R66, 60_exceptions.md R166: every other opcode, `0x00` among them, is reserved; the
three defined opcodes are none whatever `D[31:8]` holds. -/
def Obligations.ReservedCommandIsIllegal : Prop :=
  (∀ (s : State) (hi : BitVec 24) (op : Byte), op ≠ 0x01#8 → op ≠ 0x02#8 → op ≠ 0x03#8 →
    decode (txn true 0x00#7 (hi ++ op)) = .cmdRsvd op ∧
    exec (.cmdRsvd op) s = .next { s with result := 0xFF#8 }) ∧
  (∀ hi : BitVec 24, decode (txn true 0x00#7 (hi ++ 0x01#8)) = .crcInit ∧
    decode (txn true 0x00#7 (hi ++ 0x02#8)) = .cfgEnc ∧
    decode (txn true 0x00#7 (hi ++ 0x03#8)) = .cfgDec)

/-- 60_exceptions.md R160, R168: a command that leaves an error has changed `RESULT` and nothing else. -/
def Obligations.FailedCommandChangesOnlyResult : Prop :=
  ∀ (i : Instr) (s t : State), isCommand i = true → exec i s = .next t → t.result ≠ 0x00#8 →
    t = { s with result := t.result }

/-- 60_exceptions.md R161 to R166: the codes a command can leave are those of R161's table, each left
exactly where its cause holds; with an error code nothing but `RESULT` has changed; and no instruction
that is no command changes `RESULT`. -/
def Obligations.CommandErrorCauses : Prop :=
  ∀ s : State,
    (∃ t : State, exec .crcInit s = .next t ∧ t.result = 0x00#8) ∧
    (∀ (hi : BitVec 24) (op : Byte), op ≠ 0x01#8 → op ≠ 0x02#8 → op ≠ 0x03#8 →
      decode (txn true 0x00#7 (hi ++ op)) = .cmdRsvd op) ∧
    (∀ op : Byte, exec (.cmdRsvd op) s = .next { s with result := 0xFF#8 }) ∧
    (∃ t : State, exec .cfgEnc s = .next t ∧
      (t.result = 0x01#8 ↔ s.recNax ≠ 8#8 ∨ s.recNbt ≠ 16#8) ∧
      (t.result = 0x00#8 ↔ s.recNax = 8#8 ∧ s.recNbt = 16#8) ∧
      (t.result = 0x00#8 ∨ t = { s with result := t.result })) ∧
    (∃ t : State, exec .cfgDec s = .next t ∧
      (t.result = 0x02#8 ↔ 2 ≤ s.bufLen.toNat ∧ s.bufGet 1#6 ≠ 0x01#8) ∧
      (t.result = 0x03#8 ↔ s.decVerifyCrc = true ∧ 31 ≤ s.bufLen.toNat ∧ s.bufGet 1#6 = 0x01#8 ∧
        fromLe32 (s.bufGet 27#6) (s.bufGet 28#6) (s.bufGet 29#6) (s.bufGet 30#6)
          ≠ crc32 (s.bufBytes 1 26)) ∧
      (t.result = 0x04#8 ↔ s.bufLen.toNat < 2 ∨ (s.bufGet 1#6 = 0x01#8 ∧ s.bufLen.toNat < 27)) ∧
      (t.result = 0x00#8 ↔ 27 ≤ s.bufLen.toNat ∧ s.bufGet 1#6 = 0x01#8 ∧
        (s.decVerifyCrc = true → 31 ≤ s.bufLen.toNat →
          fromLe32 (s.bufGet 27#6) (s.bufGet 28#6) (s.bufGet 29#6) (s.bufGet 30#6)
            = crc32 (s.bufBytes 1 26))) ∧
      (t.result ∈ [0x00#8, 0x02#8, 0x03#8, 0x04#8]) ∧
      (t.result = 0x00#8 ∨ t = { s with result := t.result })) ∧
    (∀ (i : Instr) (t : State), isCommand i = false → exec i s = .next t → t.result = s.result)

/-! ## Programs of pseudo-instructions (30_encoding.md R69) -/

/-- 30_encoding.md R69, 40_crc_engine.md R93: `CRC.STREAM` answers the checksum of its bytes. -/
def Obligations.CrcStreamIsChecksum : Prop :=
  ∀ (s : State) (bs : List Byte) (rest : List Txn),
    s.pending = (expand (.crcStream bs)).map encode ++ rest →
    ∃ u : State, Host.Core.run Sys2Proof.core (bs.length + 2) s = .next u ∧ u.pending = rest ∧
      u.acc = crcAcc bs ∧ u.responses = s.responses ++ [crc32 bs]

/-- 30_encoding.md R69: "`REC.LOAD` followed by `ENCODE` and `BUF.DUMP 30` is the spelling of
`encode(record)`". The responses are RES_OK, the length 30 and the bytes of the image. -/
def Obligations.EncodeProgramIsEncode : Prop :=
  ∀ (s : State) (v : Byte) (axes : Vector Byte 8) (btns : Vector Byte 16) (rest : List Txn),
    s.pending = (expand (.recLoad v axes btns) ++ expand .encode ++ expand (.bufDump 30)).map encode
      ++ rest →
    ∃ (u : State) (image : List Byte), Host.Core.run Sys2Proof.core 60 s = .next u ∧ u.pending = rest ∧
      encodeRecord ⟨v, axes.toList.map s8, btns.toList.map s8⟩ = .ok image ∧
      u.responses = s.responses ++ ([0x00#32, 30#32] ++ image.map (fun b => b.setWidth 32))

/-- 30_encoding.md R69: "`BUF.LOAD` followed by `DECODE` and `REC.DUMP` is the spelling of
`decode(buffer)`". The responses are the result code, then the record; where decode fails the record
registers are those from before. -/
def Obligations.DecodeProgramIsDecode : Prop :=
  ∀ (s : State) (bs : List Byte) (rest : List Txn), bs.length ≤ 64 →
    s.pending = (expand (.bufLoad bs) ++ expand .decode ++ expand .recDump).map encode ++ rest →
    ∃ u : State, Host.Core.run Sys2Proof.core (bs.length + 30) s = .next u ∧ u.pending = rest ∧
      match decodeRecord s.decVerifyCrc bs with
      | .ok r => u.responses = s.responses ++
          ([0x00#32, 0x01#32, 8#32, 16#32] ++ (r.axes ++ r.buttons).map (fun n => (u8 n).setWidth 32))
      | .error e =>
          u.responses = s.responses ++ ([e.code.setWidth 32, s.recVersion.setWidth 32,
              s.recNax.setWidth 32, s.recNbt.setWidth 32] ++
            (s.axis.toList ++ s.btn.toList).map (fun b => b.setWidth 32)) ∧
          u.record = s.record ∧ u.recNax = s.recNax ∧ u.recNbt = s.recNbt
end

