-- ==== Sys2Proof/Laws/Decode.lean ====
section
/-! SUPPORT. The fields of an assembled word, and the row that decides. -/

namespace Sys2Proof

open Sys2Proof.Machine

/-- Every bit of an assembled word (30_encoding.md R60). -/
theorem txn_getLsbD (w : Bool) (a : Addr) (d : Word) (n : Nat) :
    (txn w a d).getLsbD n = if n < 32 then d.getLsbD n
      else if n - 32 < 7 then a.getLsbD (n - 32) else (BitVec.ofBool w).getLsbD (n - 32 - 7) := by
  have h : (BitVec.ofBool w ++ a ++ d).getLsbD n = _ := BitVec.getLsbD_append
  exact h.trans (by rw [BitVec.getLsbD_append])

/-- Every bit of a data field with a byte at its low end. -/
theorem append_getLsbD (hi : BitVec 24) (b : Byte) (n : Nat) :
    BitVec.getLsbD (w := 32) (hi ++ b) n = if n < 8 then b.getLsbD n else hi.getLsbD (n - 8) :=
  BitVec.getLsbD_append

@[simp] theorem fieldW_txn (w : Bool) (a : Addr) (d : Word) : fieldW (txn w a d) = w := by
  rw [fieldW, txn_getLsbD]
  cases w <;> rfl

@[simp] theorem fieldA_txn (w : Bool) (a : Addr) (d : Word) : fieldA (txn w a d) = a := by
  apply BitVec.eq_of_getLsbD_eq
  intro n hn
  simp [fieldA, txn_getLsbD, hn]

@[simp] theorem fieldD_txn (w : Bool) (a : Addr) (d : Word) : fieldD (txn w a d) = d := by
  apply BitVec.eq_of_getLsbD_eq
  intro n hn
  simp [fieldD, txn_getLsbD, hn]

/-- A word is its three fields (30_encoding.md R60). -/
theorem txn_fields (t : Txn) : txn (fieldW t) (fieldA t) (fieldD t) = t := by
  apply BitVec.eq_of_getLsbD_eq
  intro n hn
  rw [txn_getLsbD]
  by_cases h1 : n < 32
  · simp [fieldD, h1]
  · by_cases h2 : n - 32 < 7
    · simp [fieldA, h1, h2, show 32 + (n - 32) = n by omega]
    · obtain rfl : n = 39 := by omega
      rw [if_neg h1, if_neg h2, fieldW]
      cases t.getLsbD 39 <;> rfl

@[simp] theorem dataByte_append (hi : BitVec 24) (b : Byte) : dataByte (hi ++ b) = b := by
  apply BitVec.eq_of_getLsbD_eq
  intro n hn
  have h := append_getLsbD hi b n
  rw [if_pos hn] at h
  simp only [dataByte, BitVec.getLsbD_extractLsb', hn, decide_true, Bool.true_and, Nat.zero_add]
  exact h

@[simp] theorem dataByte_zext32 (b : Byte) : dataByte (zext32 b) = b := by
  apply BitVec.eq_of_getLsbD_eq
  intro n hn
  simp [dataByte, zext32, hn, show n < 32 by omega]

/-- Masking a word masks its fields. -/
theorem txn_and (w w' : Bool) (a a' : Addr) (d d' : Word) :
    txn w a d &&& txn w' a' d' = txn (w && w') (a &&& a') (d &&& d') := by
  apply BitVec.eq_of_getLsbD_eq
  intro n hn
  rw [BitVec.getLsbD_and]
  simp only [txn_getLsbD]
  split_ifs
  · simp
  · simp
  · obtain rfl : n = 39 := by omega
    cases w <;> cases w' <;> rfl

/-- Words are equal when their fields are. -/
theorem txn_inj {w w' : Bool} {a a' : Addr} {d d' : Word} :
    txn w a d = txn w' a' d' ↔ w = w' ∧ a = a' ∧ d = d' := by
  constructor
  · intro h
    refine ⟨?_, ?_, ?_⟩
    · simpa using congrArg fieldW h
    · simpa using congrArg fieldA h
    · simpa using congrArg fieldD h
  · rintro ⟨rfl, rfl, rfl⟩; rfl

/-- A row decides on the three fields separately. -/
theorem hits_txn (r : Row) (w : Bool) (a : Addr) (d : Word) :
    r.hits (txn w a d) = decide ((w && fieldW r.mask) = fieldW r.pat ∧
      a &&& fieldA r.mask = fieldA r.pat ∧ d &&& fieldD r.mask = fieldD r.pat) := by
  have h : txn w a d &&& r.mask
      = txn (w && fieldW r.mask) (a &&& fieldA r.mask) (d &&& fieldD r.mask) := by
    rw [← txn_and, txn_fields]
  have hp : r.pat = txn (fieldW r.pat) (fieldA r.pat) (fieldD r.pat) := (txn_fields _).symm
  rw [Row.hits, h, hp, Bool.eq_iff_iff]
  simp [txn_inj]

/-- The first row that hits builds the instruction (30_encoding.md R65). -/
theorem build_find_cons (p : Row → Bool) (r z : Row) (rs : List Row) (t : Txn) :
    (((r :: rs).find? p).getD z).build t
      = if p r = true then r.build t else ((rs.find? p).getD z).build t := by
  cases h : p r <;> simp [h]

theorem and_allOnes7 (a : Addr) : a &&& 127#7 = a := BitVec.and_allOnes

/-- The read rows as a function of the address; `decode_read` proves the rows agree with it. -/
def readInstr (a : Addr) : Instr :=
  if a = 0x01#7 then .rdResult
  else if a = 0x02#7 then .rdAcc
  else if a = 0x04#7 then .crcFin
  else if a = 0x05#7 then .rdTblidx
  else if a = 0x06#7 then .rdTbl
  else if a = 0x07#7 then .rdBuflen
  else if a = 0x08#7 then .rdRver
  else if a = 0x09#7 then .rdNax
  else if a = 0x0A#7 then .rdNbt
  else if a &&& 0x78#7 = 0x10#7 then .rdAxis (axisIdx a)
  else if a &&& 0x70#7 = 0x20#7 then .rdBtn (btnIdx a)
  else if a &&& 0x40#7 = 0x40#7 then .rdBuf (bufIdx a)
  else .rdRsvd a

/-- The write rows as a function of address and data; `decode_write` proves the rows agree with it. -/
def writeInstr (a : Addr) (d : Word) : Instr :=
  if a = 0x00#7 then
    if dataByte d = 0x01#8 then .crcInit
    else if dataByte d = 0x02#8 then .cfgEnc
    else if dataByte d = 0x03#8 then .cfgDec
    else .cmdRsvd (dataByte d)
  else if a = 0x02#7 then .wrAcc d
  else if a = 0x03#7 then .crcUpd (dataByte d)
  else if a = 0x05#7 then .wrTblidx (dataByte d)
  else if a = 0x07#7 then .wrBuflen (dataByte d)
  else if a = 0x08#7 then .wrRver (dataByte d)
  else if a = 0x09#7 then .wrNax (dataByte d)
  else if a = 0x0A#7 then .wrNbt (dataByte d)
  else if a &&& 0x78#7 = 0x10#7 then .wrAxis (axisIdx a) (dataByte d)
  else if a &&& 0x70#7 = 0x20#7 then .wrBtn (btnIdx a) (dataByte d)
  else if a &&& 0x40#7 = 0x40#7 then .wrBuf (bufIdx a) (dataByte d)
  else .wrRsvd a

/-- Masking with `0xFF` compares the low byte (30_encoding.md R64). -/
theorem and_FF (d : Word) (b : Byte) : d &&& 0xFF#32 = zext32 b ↔ dataByte d = b := by
  constructor
  · intro h
    have h2 := congrArg dataByte h
    rw [dataByte_zext32] at h2
    rw [← h2]
    apply BitVec.eq_of_getLsbD_eq
    intro n hn
    have : (255#32).getLsbD n = true := by interval_cases n <;> rfl
    simp only [dataByte, BitVec.getLsbD_extractLsb', BitVec.getLsbD_and, hn, Nat.zero_add, this,
      Bool.and_true]
  · rintro rfl
    apply BitVec.eq_of_getLsbD_eq
    intro n hn
    simp only [zext32, BitVec.getLsbD_and, BitVec.getLsbD_setWidth, dataByte,
      BitVec.getLsbD_extractLsb', hn]
    by_cases h8 : n < 8
    · have : (255#32).getLsbD n = true := by interval_cases n <;> rfl
      simp [this, h8]
    · have : (255#32).getLsbD n = false := by interval_cases n <;> rfl
      simp [this, h8]

/-- What a read word decodes to, by its address alone (30_encoding.md R65, R62). -/
theorem decode_read (a : Addr) (d : Word) : decode (txn false a d) = readInstr a := by
  simp only [decode, firstRow, rows, commandRows, writeRows, readRows, List.cons_append,
    List.nil_append, build_find_cons, List.find?_nil, Option.getD_none, hits_txn, wrRsvdRow, rdRsvdRow]
  simp only [fieldW, fieldA, fieldD, BitVec.reduceGetLsb, BitVec.reduceExtractLsb', Bool.false_and,
    BitVec.and_zero, and_allOnes7, Bool.false_eq_true, false_and, decide_false, true_and,
    and_true, decide_eq_true_eq, if_false, decide_true, if_true]
  have h : BitVec.extractLsb' 32 7 (txn false a d) = a := fieldA_txn false a d
  rw [h, readInstr]

/-- What a write word decodes to, by its address and data (30_encoding.md R65, R63). -/
theorem decode_write (a : Addr) (d : Word) : decode (txn true a d) = writeInstr a d := by
  simp only [decode, firstRow, rows, commandRows, writeRows, readRows, List.cons_append,
    List.nil_append, build_find_cons, List.find?_nil, Option.getD_none, hits_txn, wrRsvdRow, rdRsvdRow]
  simp only [fieldW, fieldA, fieldD, BitVec.reduceGetLsb, BitVec.reduceExtractLsb', Bool.true_and,
    BitVec.and_zero, and_allOnes7, Bool.false_eq_true, Bool.true_eq_false, false_and, decide_false,
    true_and, and_true, decide_eq_true_eq, if_false, decide_true, if_true]
  have h : BitVec.extractLsb' 32 7 (txn true a d) = a := fieldA_txn true a d
  have hd : BitVec.extractLsb' 0 32 (txn true a d) = d := fieldD_txn true a d
  have h1 := and_FF d 1#8
  have h2 := and_FF d 2#8
  have h3 := and_FF d 3#8
  simp only [show zext32 1#8 = 1#32 from rfl, show zext32 2#8 = 2#32 from rfl,
    show zext32 3#8 = 3#32 from rfl] at h1 h2 h3
  simp only [h, hd, h1, h2, h3, writeInstr]
  by_cases ha : a = 0#7
  · simp [ha]
  · simp [ha]

end Sys2Proof
end

