-- ==== Sys2Proof/Laws/Memory.lean ====
section
/-! SUPPORT. The buffer memory: a read after a write to the same index gives the value written, a write
leaves every other index alone, and every operation keeps the canonical form. None of the read laws
needs the canonical form. -/

namespace Sys2Proof.Machine

@[simp] theorem Memory.readByte_nil (k : BufIdx) : Memory.readByte [] k = 0#8 := rfl

theorem Memory.readByte_cons (c : Host.Cell) (m : Memory) (k : BufIdx) :
    Memory.readByte (c :: m) k = if c.1 = k.toNat then c.2 else Memory.readByte m k := rfl

theorem Memory.readByte_dropCell_same (m : Memory) (k : BufIdx) :
    Memory.readByte (Memory.dropCell m k) k = 0#8 := by
  induction m with
  | nil => rfl
  | cons c m ih =>
    by_cases h : c.1 = k.toNat
    · have hd : Memory.dropCell (c :: m) k = Memory.dropCell m k := by simp [Memory.dropCell, h]
      rw [hd, ih]
    · have hd : Memory.dropCell (c :: m) k = c :: Memory.dropCell m k := by simp [Memory.dropCell, h]
      rw [hd, Memory.readByte_cons, if_neg h, ih]

theorem Memory.readByte_dropCell_other (m : Memory) {k k' : BufIdx} (hk : k' ≠ k) :
    Memory.readByte (Memory.dropCell m k) k' = Memory.readByte m k' := by
  have hn : k.toNat ≠ k'.toNat := fun h => hk (BitVec.eq_of_toNat_eq h.symm)
  induction m with
  | nil => rfl
  | cons c m ih =>
    by_cases h : c.1 = k.toNat
    · have hd : Memory.dropCell (c :: m) k = Memory.dropCell m k := by simp [Memory.dropCell, h]
      rw [hd, ih, Memory.readByte_cons, if_neg (by omega)]
    · have hd : Memory.dropCell (c :: m) k = c :: Memory.dropCell m k := by simp [Memory.dropCell, h]
      rw [hd, Memory.readByte_cons, Memory.readByte_cons, ih]

/-- Inserting a cell of an index that no cell has: reads see the new cell there and nothing else. -/
theorem Memory.readByte_insertCell (c : Host.Cell) (m : Memory) (k : BufIdx)
    (h : ∀ d ∈ m, d.1 ≠ c.1) :
    Memory.readByte (Memory.insertCell c m) k
      = if c.1 = k.toNat then c.2 else Memory.readByte m k := by
  induction m with
  | nil => rfl
  | cons d m ih =>
    rw [Memory.insertCell]
    split
    · rfl
    · rw [Memory.readByte_cons, ih (fun e he => h e (by simp [he])), Memory.readByte_cons]
      have hd := h d (by simp)
      split_ifs <;> first | rfl | omega

theorem Memory.dropCell_ne (m : Memory) (k : BufIdx) : ∀ d ∈ Memory.dropCell m k, d.1 ≠ k.toNat := by
  intro d hd
  simpa [Memory.dropCell] using (List.mem_filter.mp hd).2

/-- A write is seen at its own index. -/
@[simp] theorem Memory.readByte_writeByte_same (m : Memory) (k : BufIdx) (v : Byte) :
    (m.writeByte k v).readByte k = v := by
  unfold Memory.writeByte
  split
  · next h => rw [Memory.readByte_dropCell_same, h, unlistedByte]
  · rw [Memory.readByte_insertCell _ _ _ (Memory.dropCell_ne m k), if_pos rfl]

/-- A write leaves every other index alone. -/
theorem Memory.readByte_writeByte_other (m : Memory) {k k' : BufIdx} (v : Byte) (hk : k' ≠ k) :
    (m.writeByte k v).readByte k' = m.readByte k' := by
  have hn : k.toNat ≠ k'.toNat := fun h => hk (BitVec.eq_of_toNat_eq h.symm)
  unfold Memory.writeByte
  split
  · exact Memory.readByte_dropCell_other m hk
  · rw [Memory.readByte_insertCell _ _ _ (Memory.dropCell_ne m k), if_neg hn,
      Memory.readByte_dropCell_other m hk]

theorem Memory.readByte_writeByte (m : Memory) (k k' : BufIdx) (v : Byte) :
    (m.writeByte k v).readByte k' = if k' = k then v else m.readByte k' := by
  split
  · next h => rw [h, Memory.readByte_writeByte_same]
  · next h => exact Memory.readByte_writeByte_other m v h

/-! The canonical form -/

theorem Memory.wf_nil : Memory.wf [] := by simp [Memory.wf]

theorem Memory.wf_dropCell {m : Memory} (h : Memory.wf m) (k : BufIdx) :
    Memory.wf (Memory.dropCell m k) :=
  ⟨h.1.filter _, fun c hc => h.2 c (List.mem_filter.mp hc).1⟩

theorem Memory.mem_insertCell {c d : Host.Cell} {m : Memory} :
    d ∈ Memory.insertCell c m ↔ d = c ∨ d ∈ m := by
  induction m with
  | nil => simp [Memory.insertCell]
  | cons e m ih =>
    rw [Memory.insertCell]
    split
    · simp
    · simp only [List.mem_cons, ih]; tauto

theorem Memory.pairwise_insertCell {c : Host.Cell} {m : Memory}
    (h : m.Pairwise (fun c d => c.1 < d.1)) (hc : ∀ d ∈ m, d.1 ≠ c.1) :
    (Memory.insertCell c m).Pairwise (fun c d => c.1 < d.1) := by
  induction m with
  | nil => simp [Memory.insertCell]
  | cons d m ih =>
    obtain ⟨hd, hm⟩ := List.pairwise_cons.mp h
    rw [Memory.insertCell]
    split
    · next hlt =>
      refine List.pairwise_cons.mpr ⟨fun e he => ?_, h⟩
      rcases List.mem_cons.mp he with rfl | he
      · exact hlt
      · exact Nat.lt_trans hlt (hd e he)
    · next hge =>
      have hne := hc d (by simp)
      refine List.pairwise_cons.mpr ⟨fun e he => ?_, ih hm (fun e he => hc e (by simp [he]))⟩
      rcases Memory.mem_insertCell.mp he with rfl | he
      · omega
      · exact hd e he

/-- A write keeps the canonical form. -/
theorem Memory.wf_writeByte {m : Memory} (h : Memory.wf m) (k : BufIdx) (v : Byte) :
    Memory.wf (m.writeByte k v) := by
  unfold Memory.writeByte
  split
  · exact Memory.wf_dropCell h k
  · next hv =>
    have hd := Memory.wf_dropCell h k
    refine ⟨Memory.pairwise_insertCell hd.1 (Memory.dropCell_ne m k), fun c hc => ?_⟩
    rcases Memory.mem_insertCell.mp hc with rfl | hc
    · exact ⟨k.isLt, hv⟩
    · exact hd.2 c hc

/-- Writing a run of bytes keeps the canonical form. -/
theorem Memory.wf_writeBytes {m : Memory} (h : Memory.wf m) (k : Nat) (bs : List Byte) :
    Memory.wf (m.writeBytes k bs) := by
  induction bs generalizing m k with
  | nil => exact h
  | cons b bs ih => exact ih (Memory.wf_writeByte h _ _) _

/-- What a run of bytes that stays inside the buffer leaves at every index. -/
theorem Memory.readByte_writeBytes (m : Memory) (k : Nat) (bs : List Byte) (x : BufIdx)
    (h : k + bs.length ≤ 64) :
    (m.writeBytes k bs).readByte x
      = if k ≤ x.toNat ∧ x.toNat < k + bs.length then bs.getD (x.toNat - k) 0 else m.readByte x := by
  induction bs generalizing m k with
  | nil =>
    rw [if_neg (by simp)]
    rfl
  | cons b bs ih =>
    simp only [List.length_cons] at h ⊢
    rw [Memory.writeBytes, ih _ _ (by omega), Memory.readByte_writeByte]
    have hk : x = BitVec.ofNat 6 k ↔ x.toNat = k := by
      rw [← BitVec.toNat_inj, BitVec.toNat_ofNat, Nat.mod_eq_of_lt (by omega)]
    simp only [hk]
    by_cases h1 : x.toNat = k
    · rw [if_neg (by omega), if_pos h1, if_pos (by omega), h1]
      simp
    · by_cases h2 : k + 1 ≤ x.toNat ∧ x.toNat < k + 1 + bs.length
      · rw [if_pos h2, if_pos (by omega), show x.toNat - k = (x.toNat - (k + 1)) + 1 by omega]
        simp
      · rw [if_neg h2, if_neg h1, if_neg (by omega)]

end Sys2Proof.Machine
end

