-- ==== Sys2Proof/Laws/State.lean ====
section
/-! SUPPORT. What each named update of State leaves in each field, one lemma per field per update, so
that no later proof unfolds a record update. -/

namespace Sys2Proof.Machine

variable (s : State)

/-! setResult -/

@[simp] theorem State.setResult_acc (c : Byte) :
    (s.setResult c).acc = s.acc := rfl
@[simp] theorem State.setResult_tblIdx (c : Byte) :
    (s.setResult c).tblIdx = s.tblIdx := rfl
@[simp] theorem State.setResult_result (c : Byte) :
    (s.setResult c).result = c := rfl
@[simp] theorem State.setResult_recVersion (c : Byte) :
    (s.setResult c).recVersion = s.recVersion := rfl
@[simp] theorem State.setResult_recNax (c : Byte) :
    (s.setResult c).recNax = s.recNax := rfl
@[simp] theorem State.setResult_recNbt (c : Byte) :
    (s.setResult c).recNbt = s.recNbt := rfl
@[simp] theorem State.setResult_axis (c : Byte) :
    (s.setResult c).axis = s.axis := rfl
@[simp] theorem State.setResult_btn (c : Byte) :
    (s.setResult c).btn = s.btn := rfl
@[simp] theorem State.setResult_buf (c : Byte) :
    (s.setResult c).buf = s.buf := rfl
@[simp] theorem State.setResult_bufLen (c : Byte) :
    (s.setResult c).bufLen = s.bufLen := rfl
@[simp] theorem State.setResult_decVerifyCrc (c : Byte) :
    (s.setResult c).decVerifyCrc = s.decVerifyCrc := rfl
@[simp] theorem State.setResult_pending (c : Byte) :
    (s.setResult c).pending = s.pending := rfl
@[simp] theorem State.setResult_responses (c : Byte) :
    (s.setResult c).responses = s.responses := rfl

/-! issue -/

@[simp] theorem State.issue_acc (t : Txn) :
    (s.issue t).acc = s.acc := rfl
@[simp] theorem State.issue_tblIdx (t : Txn) :
    (s.issue t).tblIdx = s.tblIdx := rfl
@[simp] theorem State.issue_result (t : Txn) :
    (s.issue t).result = s.result := rfl
@[simp] theorem State.issue_recVersion (t : Txn) :
    (s.issue t).recVersion = s.recVersion := rfl
@[simp] theorem State.issue_recNax (t : Txn) :
    (s.issue t).recNax = s.recNax := rfl
@[simp] theorem State.issue_recNbt (t : Txn) :
    (s.issue t).recNbt = s.recNbt := rfl
@[simp] theorem State.issue_axis (t : Txn) :
    (s.issue t).axis = s.axis := rfl
@[simp] theorem State.issue_btn (t : Txn) :
    (s.issue t).btn = s.btn := rfl
@[simp] theorem State.issue_buf (t : Txn) :
    (s.issue t).buf = s.buf := rfl
@[simp] theorem State.issue_bufLen (t : Txn) :
    (s.issue t).bufLen = s.bufLen := rfl
@[simp] theorem State.issue_decVerifyCrc (t : Txn) :
    (s.issue t).decVerifyCrc = s.decVerifyCrc := rfl
@[simp] theorem State.issue_pending (t : Txn) :
    (s.issue t).pending = t :: s.pending := rfl
@[simp] theorem State.issue_responses (t : Txn) :
    (s.issue t).responses = s.responses := rfl

/-! bufPut -/

@[simp] theorem State.bufPut_acc (k : BufIdx) (v : Byte) :
    (s.bufPut k v).acc = s.acc := rfl
@[simp] theorem State.bufPut_tblIdx (k : BufIdx) (v : Byte) :
    (s.bufPut k v).tblIdx = s.tblIdx := rfl
@[simp] theorem State.bufPut_result (k : BufIdx) (v : Byte) :
    (s.bufPut k v).result = s.result := rfl
@[simp] theorem State.bufPut_recVersion (k : BufIdx) (v : Byte) :
    (s.bufPut k v).recVersion = s.recVersion := rfl
@[simp] theorem State.bufPut_recNax (k : BufIdx) (v : Byte) :
    (s.bufPut k v).recNax = s.recNax := rfl
@[simp] theorem State.bufPut_recNbt (k : BufIdx) (v : Byte) :
    (s.bufPut k v).recNbt = s.recNbt := rfl
@[simp] theorem State.bufPut_axis (k : BufIdx) (v : Byte) :
    (s.bufPut k v).axis = s.axis := rfl
@[simp] theorem State.bufPut_btn (k : BufIdx) (v : Byte) :
    (s.bufPut k v).btn = s.btn := rfl
@[simp] theorem State.bufPut_buf (k : BufIdx) (v : Byte) :
    (s.bufPut k v).buf = s.buf.writeByte k v := rfl
@[simp] theorem State.bufPut_bufLen (k : BufIdx) (v : Byte) :
    (s.bufPut k v).bufLen = s.bufLen := rfl
@[simp] theorem State.bufPut_decVerifyCrc (k : BufIdx) (v : Byte) :
    (s.bufPut k v).decVerifyCrc = s.decVerifyCrc := rfl
@[simp] theorem State.bufPut_pending (k : BufIdx) (v : Byte) :
    (s.bufPut k v).pending = s.pending := rfl
@[simp] theorem State.bufPut_responses (k : BufIdx) (v : Byte) :
    (s.bufPut k v).responses = s.responses := rfl

/-! axisPut -/

@[simp] theorem State.axisPut_acc (i : AxisIdx) (v : Byte) :
    (s.axisPut i v).acc = s.acc := rfl
@[simp] theorem State.axisPut_tblIdx (i : AxisIdx) (v : Byte) :
    (s.axisPut i v).tblIdx = s.tblIdx := rfl
@[simp] theorem State.axisPut_result (i : AxisIdx) (v : Byte) :
    (s.axisPut i v).result = s.result := rfl
@[simp] theorem State.axisPut_recVersion (i : AxisIdx) (v : Byte) :
    (s.axisPut i v).recVersion = s.recVersion := rfl
@[simp] theorem State.axisPut_recNax (i : AxisIdx) (v : Byte) :
    (s.axisPut i v).recNax = s.recNax := rfl
@[simp] theorem State.axisPut_recNbt (i : AxisIdx) (v : Byte) :
    (s.axisPut i v).recNbt = s.recNbt := rfl
@[simp] theorem State.axisPut_axis (i : AxisIdx) (v : Byte) :
    (s.axisPut i v).axis = s.axis.set i.toNat v i.isLt := rfl
@[simp] theorem State.axisPut_btn (i : AxisIdx) (v : Byte) :
    (s.axisPut i v).btn = s.btn := rfl
@[simp] theorem State.axisPut_buf (i : AxisIdx) (v : Byte) :
    (s.axisPut i v).buf = s.buf := rfl
@[simp] theorem State.axisPut_bufLen (i : AxisIdx) (v : Byte) :
    (s.axisPut i v).bufLen = s.bufLen := rfl
@[simp] theorem State.axisPut_decVerifyCrc (i : AxisIdx) (v : Byte) :
    (s.axisPut i v).decVerifyCrc = s.decVerifyCrc := rfl
@[simp] theorem State.axisPut_pending (i : AxisIdx) (v : Byte) :
    (s.axisPut i v).pending = s.pending := rfl
@[simp] theorem State.axisPut_responses (i : AxisIdx) (v : Byte) :
    (s.axisPut i v).responses = s.responses := rfl

/-! btnPut -/

@[simp] theorem State.btnPut_acc (j : BtnIdx) (v : Byte) :
    (s.btnPut j v).acc = s.acc := rfl
@[simp] theorem State.btnPut_tblIdx (j : BtnIdx) (v : Byte) :
    (s.btnPut j v).tblIdx = s.tblIdx := rfl
@[simp] theorem State.btnPut_result (j : BtnIdx) (v : Byte) :
    (s.btnPut j v).result = s.result := rfl
@[simp] theorem State.btnPut_recVersion (j : BtnIdx) (v : Byte) :
    (s.btnPut j v).recVersion = s.recVersion := rfl
@[simp] theorem State.btnPut_recNax (j : BtnIdx) (v : Byte) :
    (s.btnPut j v).recNax = s.recNax := rfl
@[simp] theorem State.btnPut_recNbt (j : BtnIdx) (v : Byte) :
    (s.btnPut j v).recNbt = s.recNbt := rfl
@[simp] theorem State.btnPut_axis (j : BtnIdx) (v : Byte) :
    (s.btnPut j v).axis = s.axis := rfl
@[simp] theorem State.btnPut_btn (j : BtnIdx) (v : Byte) :
    (s.btnPut j v).btn = s.btn.set j.toNat v j.isLt := rfl
@[simp] theorem State.btnPut_buf (j : BtnIdx) (v : Byte) :
    (s.btnPut j v).buf = s.buf := rfl
@[simp] theorem State.btnPut_bufLen (j : BtnIdx) (v : Byte) :
    (s.btnPut j v).bufLen = s.bufLen := rfl
@[simp] theorem State.btnPut_decVerifyCrc (j : BtnIdx) (v : Byte) :
    (s.btnPut j v).decVerifyCrc = s.decVerifyCrc := rfl
@[simp] theorem State.btnPut_pending (j : BtnIdx) (v : Byte) :
    (s.btnPut j v).pending = s.pending := rfl
@[simp] theorem State.btnPut_responses (j : BtnIdx) (v : Byte) :
    (s.btnPut j v).responses = s.responses := rfl

/-! storeImage -/

@[simp] theorem State.storeImage_acc :
    (s.storeImage).acc = s.acc := rfl
@[simp] theorem State.storeImage_tblIdx :
    (s.storeImage).tblIdx = s.tblIdx := rfl
@[simp] theorem State.storeImage_result :
    (s.storeImage).result = s.result := rfl
@[simp] theorem State.storeImage_recVersion :
    (s.storeImage).recVersion = s.recVersion := rfl
@[simp] theorem State.storeImage_recNax :
    (s.storeImage).recNax = s.recNax := rfl
@[simp] theorem State.storeImage_recNbt :
    (s.storeImage).recNbt = s.recNbt := rfl
@[simp] theorem State.storeImage_axis :
    (s.storeImage).axis = s.axis := rfl
@[simp] theorem State.storeImage_btn :
    (s.storeImage).btn = s.btn := rfl
@[simp] theorem State.storeImage_buf :
    (s.storeImage).buf = s.buf.writeBytes 0 (withChecksum s.payload) := rfl
@[simp] theorem State.storeImage_bufLen :
    (s.storeImage).bufLen = 30#7 := rfl
@[simp] theorem State.storeImage_decVerifyCrc :
    (s.storeImage).decVerifyCrc = s.decVerifyCrc := rfl
@[simp] theorem State.storeImage_pending :
    (s.storeImage).pending = s.pending := rfl
@[simp] theorem State.storeImage_responses :
    (s.storeImage).responses = s.responses := rfl

/-! loadRecord -/

@[simp] theorem State.loadRecord_acc :
    (s.loadRecord).acc = s.acc := rfl
@[simp] theorem State.loadRecord_tblIdx :
    (s.loadRecord).tblIdx = s.tblIdx := rfl
@[simp] theorem State.loadRecord_result :
    (s.loadRecord).result = s.result := rfl
@[simp] theorem State.loadRecord_recVersion :
    (s.loadRecord).recVersion = s.bufGet 1#6 := rfl
@[simp] theorem State.loadRecord_recNax :
    (s.loadRecord).recNax = 8#8 := rfl
@[simp] theorem State.loadRecord_recNbt :
    (s.loadRecord).recNbt = 16#8 := rfl
@[simp] theorem State.loadRecord_axis :
    (s.loadRecord).axis = Vector.ofFn (fun i => s.bufGet (BitVec.ofNat 6 (3 + i.val))) := rfl
@[simp] theorem State.loadRecord_btn :
    (s.loadRecord).btn = Vector.ofFn (fun j => s.bufGet (BitVec.ofNat 6 (11 + j.val))) := rfl
@[simp] theorem State.loadRecord_buf :
    (s.loadRecord).buf = s.buf := rfl
@[simp] theorem State.loadRecord_bufLen :
    (s.loadRecord).bufLen = s.bufLen := rfl
@[simp] theorem State.loadRecord_decVerifyCrc :
    (s.loadRecord).decVerifyCrc = s.decVerifyCrc := rfl
@[simp] theorem State.loadRecord_pending :
    (s.loadRecord).pending = s.pending := rfl
@[simp] theorem State.loadRecord_responses :
    (s.loadRecord).responses = s.responses := rfl

end Sys2Proof.Machine
end

