-- ==== Sys2Proof/Laws/Ops.lean ====
section
/-! SUPPORT. What each shared operation can do, said once: the register files, the port, the outcomes
of a command, the images. -/

namespace Sys2Proof.Machine

/-! Outcomes: if the operation answers `next t`, then `t` is this state -/

theorem respond_next {s t : State} {v : Word} :
    respond s v = .next t ↔ t = { s with responses := s.responses ++ [v] } := by
  simp [respond, eq_comm]

theorem raiseError_next {s t : State} {e : CmdError} :
    raiseError e s = .next t ↔ t = s.setResult e.code := by
  simp [raiseError, eq_comm]

theorem succeed_next {s t : State} : succeed s = .next t ↔ t = s.setResult resOk := by
  simp [succeed, eq_comm]

/-- An error's code is never that of success (60_exceptions.md R161). -/
theorem CmdError.code_ne_resOk (e : CmdError) : e.code ≠ resOk := by cases e <;> decide

theorem CmdError.code_mem (e : CmdError) : e.code ∈ resultCodes := by cases e <;> decide

/-! The port -/

@[simp] theorem fetch_nil {s : State} (h : s.pending = []) : fetch s = none := by simp [fetch, h]

@[simp] theorem fetch_cons {s : State} {t : Txn} {rest : List Txn} (h : s.pending = t :: rest) :
    fetch s = some (t, { s with pending := rest }) := by simp [fetch, h]

theorem fetch_issue (s : State) (t : Txn) : fetch (s.issue t) = some (t, s) := rfl

/-! The register files -/

@[simp] theorem State.axisGet_axisPut_same (s : State) (i : AxisIdx) (v : Byte) :
    (s.axisPut i v).axisGet i = v := by simp [State.axisGet]

theorem State.axisGet_axisPut_other (s : State) {i i' : AxisIdx} (v : Byte) (h : i' ≠ i) :
    (s.axisPut i v).axisGet i' = s.axisGet i' := by
  have hn : i.toNat ≠ i'.toNat := fun e => h (BitVec.eq_of_toNat_eq e.symm)
  simp [State.axisGet, Vector.getElem_set_ne, hn]

@[simp] theorem State.btnGet_btnPut_same (s : State) (j : BtnIdx) (v : Byte) :
    (s.btnPut j v).btnGet j = v := by simp [State.btnGet]

theorem State.btnGet_btnPut_other (s : State) {j j' : BtnIdx} (v : Byte) (h : j' ≠ j) :
    (s.btnPut j v).btnGet j' = s.btnGet j' := by
  have hn : j.toNat ≠ j'.toNat := fun e => h (BitVec.eq_of_toNat_eq e.symm)
  simp [State.btnGet, Vector.getElem_set_ne, hn]

/-- Two axis files that read alike at every index are equal. -/
theorem axis_ext {s t : State} (h : ∀ i, s.axisGet i = t.axisGet i) : s.axis = t.axis := by
  apply Vector.ext
  intro n hn
  have := h (BitVec.ofNat 3 n)
  simpa [State.axisGet, Nat.mod_eq_of_lt hn] using this

/-- Two button files that read alike at every index are equal. -/
theorem btn_ext {s t : State} (h : ∀ j, s.btnGet j = t.btnGet j) : s.btn = t.btn := by
  apply Vector.ext
  intro n hn
  have := h (BitVec.ofNat 4 n)
  simpa [State.btnGet, Nat.mod_eq_of_lt hn] using this

/-! The buffer -/

@[simp] theorem State.bufGet_bufPut_same (s : State) (k : BufIdx) (v : Byte) :
    (s.bufPut k v).bufGet k = v := by simp [State.bufGet]

theorem State.bufGet_bufPut_other (s : State) {k k' : BufIdx} (v : Byte) (h : k' ≠ k) :
    (s.bufPut k v).bufGet k' = s.bufGet k' := by
  simp [State.bufGet, Memory.readByte_writeByte_other _ _ h]

@[simp] theorem State.bufBytes_length (s : State) (k n : Nat) : (s.bufBytes k n).length = n := by
  simp [State.bufBytes]

theorem State.bufBytes_getElem? (s : State) (k n x : Nat) (h : x < n) :
    (s.bufBytes k n)[x]? = some (s.bufGet (BitVec.ofNat 6 (k + x))) := by
  simp [State.bufBytes, h]

theorem State.bufBytes_congr {s t : State} {k n : Nat}
    (h : ∀ x, x < n → s.bufGet (BitVec.ofNat 6 (k + x)) = t.bufGet (BitVec.ofNat 6 (k + x))) :
    s.bufBytes k n = t.bufBytes k n := by
  apply List.map_congr_left
  intro x hx
  exact h x (List.mem_range.mp hx)

/-! The images -/

@[simp] theorem le32_length (c : Word) : (le32 c).length = 4 := rfl

@[simp] theorem State.payload_length (s : State) : s.payload.length = 26 := by
  simp [State.payload]

@[simp] theorem withChecksum_length (p : List Byte) : (withChecksum p).length = p.length + 4 := by
  simp [withChecksum]

/-- The byte a successful CFG.ENC leaves at every index (41_config_codec.md R110). -/
theorem State.bufGet_storeImage (s : State) (k : BufIdx) :
    s.storeImage.bufGet k
      = if k.toNat < 30 then (withChecksum s.payload).getD k.toNat 0 else s.bufGet k := by
  rw [State.bufGet, State.storeImage_buf, Memory.readByte_writeBytes _ _ _ _ (by simp)]
  simp [State.bufGet]

@[simp] theorem State.axisGet_loadRecord (s : State) (i : AxisIdx) :
    s.loadRecord.axisGet i = s.bufGet (BitVec.ofNat 6 (3 + i.toNat)) := by
  simp [State.axisGet]

@[simp] theorem State.btnGet_loadRecord (s : State) (j : BtnIdx) :
    s.loadRecord.btnGet j = s.bufGet (BitVec.ofNat 6 (11 + j.toNat)) := by
  simp [State.btnGet]

/-! The two codec commands: everything each can do -/

/-- CFG.ENC stores the image, or ends in InvalidRecordShape (41_config_codec.md R110). -/
theorem execCfgEnc_cases (s : State) :
    (s.wellShaped = true ∧ execCfgEnc s = .next (s.storeImage.setResult resOk)) ∨
      (s.wellShaped = false ∧ execCfgEnc s = .next (s.setResult CmdError.invalidRecordShape.code)) := by
  cases h : s.wellShaped <;> simp [execCfgEnc, h, succeed, raiseError]

/-- CFG.DEC loads the record, or ends in the first failed test's error (41_config_codec.md R111). -/
theorem execCfgDec_cases (s : State) :
    (s.decodeError = none ∧ execCfgDec s = .next (s.loadRecord.setResult resOk)) ∨
      ∃ e, s.decodeError = some e ∧ execCfgDec s = .next (s.setResult e.code) := by
  cases h : s.decodeError <;> simp [execCfgDec, h, succeed, raiseError]

/-- CFG.DEC reports a bad checksum only where it verifies one (60_exceptions.md R164). -/
theorem decodeError_checksumMismatch {s : State} (h : s.decodeError = some .checksumMismatch) :
    s.decVerifyCrc = true := by
  cases hv : s.decVerifyCrc with
  | true => rfl
  | false =>
    have hc : s.checksumBad = false := by simp [State.checksumBad, hv]
    simp only [State.decodeError, hc] at h
    split_ifs at h <;> simp_all

theorem wellShaped_iff (s : State) : s.wellShaped = true ↔ s.recNax = 8#8 ∧ s.recNbt = 16#8 := by
  simp [State.wellShaped, Config.nAxes, Config.nButtons, ← BitVec.toNat_inj]

end Sys2Proof.Machine
end

