-- ==== Sys2Proof/Laws/PerInstr.lean ====
section
/-! SUPPORT. Facts about every instruction as syntax, one lemma per constructor. -/

namespace Sys2Proof.Laws

open Sys2Proof.Machine

/-- The word of an instruction has the direction bit of its row (30_encoding.md R60, R65). -/
def DirectionBit.Statement (i : Instr) : Prop := fieldW (encode i) = i.isWrite

theorem DirectionBit.crcInit : DirectionBit.Statement .crcInit :=
  fieldW_txn _ _ _

theorem DirectionBit.cfgEnc : DirectionBit.Statement .cfgEnc :=
  fieldW_txn _ _ _

theorem DirectionBit.cfgDec : DirectionBit.Statement .cfgDec :=
  fieldW_txn _ _ _

theorem DirectionBit.cmdRsvd (op : Byte) : DirectionBit.Statement (.cmdRsvd op) :=
  fieldW_txn _ _ _

theorem DirectionBit.wrAcc (v : Word) : DirectionBit.Statement (.wrAcc v) :=
  fieldW_txn _ _ _

theorem DirectionBit.crcUpd (b : Byte) : DirectionBit.Statement (.crcUpd b) :=
  fieldW_txn _ _ _

theorem DirectionBit.wrTblidx (v : Byte) : DirectionBit.Statement (.wrTblidx v) :=
  fieldW_txn _ _ _

theorem DirectionBit.wrBuflen (v : Byte) : DirectionBit.Statement (.wrBuflen v) :=
  fieldW_txn _ _ _

theorem DirectionBit.wrRver (v : Byte) : DirectionBit.Statement (.wrRver v) :=
  fieldW_txn _ _ _

theorem DirectionBit.wrNax (v : Byte) : DirectionBit.Statement (.wrNax v) :=
  fieldW_txn _ _ _

theorem DirectionBit.wrNbt (v : Byte) : DirectionBit.Statement (.wrNbt v) :=
  fieldW_txn _ _ _

theorem DirectionBit.wrAxis (i : AxisIdx) (v : Byte) : DirectionBit.Statement (.wrAxis i v) :=
  fieldW_txn _ _ _

theorem DirectionBit.wrBtn (j : BtnIdx) (v : Byte) : DirectionBit.Statement (.wrBtn j v) :=
  fieldW_txn _ _ _

theorem DirectionBit.wrBuf (k : BufIdx) (v : Byte) : DirectionBit.Statement (.wrBuf k v) :=
  fieldW_txn _ _ _

theorem DirectionBit.rdResult : DirectionBit.Statement .rdResult :=
  fieldW_txn _ _ _

theorem DirectionBit.rdAcc : DirectionBit.Statement .rdAcc :=
  fieldW_txn _ _ _

theorem DirectionBit.crcFin : DirectionBit.Statement .crcFin :=
  fieldW_txn _ _ _

theorem DirectionBit.rdTblidx : DirectionBit.Statement .rdTblidx :=
  fieldW_txn _ _ _

theorem DirectionBit.rdTbl : DirectionBit.Statement .rdTbl :=
  fieldW_txn _ _ _

theorem DirectionBit.rdBuflen : DirectionBit.Statement .rdBuflen :=
  fieldW_txn _ _ _

theorem DirectionBit.rdRver : DirectionBit.Statement .rdRver :=
  fieldW_txn _ _ _

theorem DirectionBit.rdNax : DirectionBit.Statement .rdNax :=
  fieldW_txn _ _ _

theorem DirectionBit.rdNbt : DirectionBit.Statement .rdNbt :=
  fieldW_txn _ _ _

theorem DirectionBit.rdAxis (i : AxisIdx) : DirectionBit.Statement (.rdAxis i) :=
  fieldW_txn _ _ _

theorem DirectionBit.rdBtn (j : BtnIdx) : DirectionBit.Statement (.rdBtn j) :=
  fieldW_txn _ _ _

theorem DirectionBit.rdBuf (k : BufIdx) : DirectionBit.Statement (.rdBuf k) :=
  fieldW_txn _ _ _

theorem DirectionBit.wrRsvd (a : Addr) : DirectionBit.Statement (.wrRsvd a) :=
  fieldW_txn _ _ _

theorem DirectionBit.rdRsvd (a : Addr) : DirectionBit.Statement (.rdRsvd a) :=
  fieldW_txn _ _ _

end Sys2Proof.Laws
end

