-- ==== Sys2Proof/Tests/Slice0.lean ====
section
/-! SUPPORT. Tests. Expected values are the spec's: the words of 30_encoding.md R65, the vectors of
95_test_vectors.md Part 2 (named V-…) and the rules cited. The theorems named `test_witness_…` show, for
each statement of Obligations.lean that has hypotheses, concrete data that meet all of them together. -/

namespace Sys2Proof.Tests

open Sys2Proof.Machine

/-! ## Helpers -/

/-- The step went on, to a state with `p`. -/
def goesTo (o : Outcome) (p : State → Bool) : Bool :=
  match o with
  | .next t => p t
  | _ => false

/-- The step went on and answered `v`, the state otherwise `s`. -/
def answers (o : Outcome) (s : State) (v : Word) : Bool :=
  goesTo o (fun t => t == { s with responses := [v] })

/-- The state a step leaves, for states built from steps. -/
def stateAfter (o : Outcome) (s : State) : State :=
  match o with
  | .next t => t
  | _ => s

/-- A step that goes on goes to the state `stateAfter` names. -/
theorem eq_next_stateAfter {o : Outcome} (s : State) (h : goesTo o (fun _ => true) = true) :
    o = .next (stateAfter o s) := by
  cases o with
  | next t => rfl
  | fault r => cases h
  | refused r => cases h

/-- A property of two words. (Deciding `∀ t ∈ l` directly would run over all 2^40 words.) -/
theorem forall_mem_pair {p : Txn → Prop} {a b : Txn} (ha : p a) (hb : p b) : ∀ t ∈ [a, b], p t := by
  simp [ha, hb]

/-- A machine just reset, with a loaded buffer and a declared length. -/
def withBuf (verify : Bool) (bs : List Byte) (n : BitVec 7) : State :=
  { State.resetOf verify with buf := Memory.writeBytes [] 0 bs, bufLen := n }

/-- A machine just reset but for the accumulator. -/
def withAcc (v : Word) : State := { State.resetOf true with acc := v }

/-- The payload of 95_test_vectors.md S8 (`PAY`). -/
def pay : List Byte :=
  [0x01, 0x00, 0x01, 0x02, 0x03, 0x04, 0xFF, 0xFE, 0xFD, 0xFC, 0x01, 0x02, 0x03, 0x04, 0x05, 0x06,
   0x07, 0x08, 0x00, 0x00, 0x00, 0x00, 0x00, 0x00, 0x00, 0x00]

/-- The checksum bytes of `pay` (V-E2). -/
def payCrc : List Byte := [0xC2, 0xB8, 0x61, 0xED]

/-- The record registers of V-E2. -/
def recS8 : State :=
  { State.resetOf true with
    axis := #v[0x01, 0x02, 0x03, 0x04, 0xFF, 0xFE, 0xFD, 0xFC]
    btn := #v[0x01, 0x02, 0x03, 0x04, 0x05, 0x06, 0x07, 0x08, 0, 0, 0, 0, 0, 0, 0, 0]
    recNax := 8
    recNbt := 16 }

/-- A good wire image in the buffer (V-D13). -/
def wireS8 (verify : Bool) : State := withBuf verify (0x03 :: pay ++ payCrc) 31

/-- CFG.DEC ended with `c` and changed nothing else. -/
def decFails (s : State) (c : Byte) : Bool :=
  goesTo (exec .cfgDec s) (fun t => t == { s with result := c })

/-- CFG.DEC loaded the record of S8. -/
def decLoadsS8 (s : State) : Bool :=
  goesTo (exec .cfgDec s) (fun t => t.result == 0 && t.recVersion == 1 && t.recNax == 8 &&
    t.recNbt == 16 && t.axis == recS8.axis && t.btn == recS8.btn && t.buf == s.buf &&
    t.bufLen == s.bufLen && t.acc == s.acc)

/-! ## Well-formedness: an ill-formed term for each check -/

theorem test_wf_refuses_cmdRsvd_of_a_command :
    (Instr.cmdRsvd 0x01).wellFormed = false ∧ (Instr.cmdRsvd 0x02).wellFormed = false ∧
      (Instr.cmdRsvd 0x03).wellFormed = false := by decide

theorem test_wf_refuses_wrRsvd_of_a_writable_address :
    (Instr.wrRsvd 0x00).wellFormed = false ∧ (Instr.wrRsvd 0x02).wellFormed = false ∧
      (Instr.wrRsvd 0x17).wellFormed = false ∧ (Instr.wrRsvd 0x40).wellFormed = false := by decide

theorem test_wf_refuses_rdRsvd_of_a_readable_address :
    (Instr.rdRsvd 0x02).wellFormed = false ∧ (Instr.rdRsvd 0x0A).wellFormed = false ∧
      (Instr.rdRsvd 0x2F).wellFormed = false ∧ (Instr.rdRsvd 0x7F).wellFormed = false := by decide

theorem test_wf_refuses_a_buffer_load_of_65_bytes :
    (Pseudo.bufLoad (List.replicate 65 0)).wellFormed = false ∧
      (Pseudo.bufLoad (List.replicate 64 0)).wellFormed = true := by decide

theorem test_wf_refuses_a_buffer_dump_of_65_bytes :
    (Pseudo.bufDump 65).wellFormed = false ∧ (Pseudo.bufDump 64).wellFormed = true := by decide

/-! ## Decoding: a word of every constructor, from match and mask of 30_encoding.md R65 -/

theorem test_decode_commands :
    decode 0x8000000001#40 = .crcInit ∧ decode 0x8000000002#40 = .cfgEnc ∧
      decode 0x8000000003#40 = .cfgDec ∧ decode 0x8000000000#40 = .cmdRsvd 0x00 ∧
      decode 0x8000000004#40 = .cmdRsvd 0x04 ∧ decode 0x80000000FF#40 = .cmdRsvd 0xFF := by decide

theorem test_decode_crc_family :
    decode 0x82DEADBEEF#40 = .wrAcc 0xDEADBEEF ∧ decode 0x8300003231#40 = .crcUpd 0x31 ∧
      decode 0x85000000FF#40 = .wrTblidx 0xFF ∧ decode 0x0200000000#40 = .rdAcc ∧
      decode 0x0400000000#40 = .crcFin ∧ decode 0x0500000000#40 = .rdTblidx ∧
      decode 0x0600000000#40 = .rdTbl := by decide

theorem test_decode_scalar_registers :
    decode 0x8700000041#40 = .wrBuflen 0x41 ∧ decode 0x8800000001#40 = .wrRver 0x01 ∧
      decode 0x8900000108#40 = .wrNax 0x08 ∧ decode 0x8A00000010#40 = .wrNbt 0x10 ∧
      decode 0x0100000000#40 = .rdResult ∧ decode 0x0700000000#40 = .rdBuflen ∧
      decode 0x0800000000#40 = .rdRver ∧ decode 0x0900000000#40 = .rdNax ∧
      decode 0x0A00000000#40 = .rdNbt := by decide

theorem test_decode_register_files_at_their_ends :
    decode 0x9000000001#40 = .wrAxis 0 0x01 ∧ decode 0x970000012C#40 = .wrAxis 7 0x2C ∧
      decode 0xA000000001#40 = .wrBtn 0 0x01 ∧ decode 0xAF000000F6#40 = .wrBtn 15 0xF6 ∧
      decode 0xC000000003#40 = .wrBuf 0 0x03 ∧ decode 0xFF000000A5#40 = .wrBuf 63 0xA5 ∧
      decode 0x1000000000#40 = .rdAxis 0 ∧ decode 0x1700000000#40 = .rdAxis 7 ∧
      decode 0x2000000000#40 = .rdBtn 0 ∧ decode 0x2F00000000#40 = .rdBtn 15 ∧
      decode 0x4000000000#40 = .rdBuf 0 ∧ decode 0x7F00000000#40 = .rdBuf 63 := by decide

/-- V-R12 to V-R17. -/
theorem test_decode_reserved :
    decode 0x8100000055#40 = .wrRsvd 0x01 ∧ decode 0x8400000055#40 = .wrRsvd 0x04 ∧
      decode 0x8600000055#40 = .wrRsvd 0x06 ∧ decode 0x8B00000000#40 = .wrRsvd 0x0B ∧
      decode 0x9F00000000#40 = .wrRsvd 0x1F ∧ decode 0xB000000000#40 = .wrRsvd 0x30 ∧
      decode 0x0000000000#40 = .rdRsvd 0x00 ∧ decode 0x0300000000#40 = .rdRsvd 0x03 ∧
      decode 0x0F00000000#40 = .rdRsvd 0x0F ∧ decode 0x1800000000#40 = .rdRsvd 0x18 ∧
      decode 0x3F00000000#40 = .rdRsvd 0x3F := by decide

theorem test_encode_words :
    encode .crcInit = 0x8000000001#40 ∧ encode (.wrAxis 4 0xFF) = 0x94000000FF#40 ∧
      encode (.wrBuf 63 0xA5) = 0xFF000000A5#40 ∧ encode (.rdBuf 29) = 0x5D00000000#40 ∧
      encode (.wrAcc 0x12345678) = 0x8212345678#40 := by decide

theorem test_decodeBytes_takes_five_bytes :
    decodeBytes [0x94, 0xFF, 0xFF, 0xFF, 0xFF] = .ok (.wrAxis 4 0xFF) ∧
      decodeBytes [0x94, 0xFF, 0xFF, 0xFF] = .error (.notFortyBits 4) ∧
      decodeBytes [] = .error (.notFortyBits 0) := by decide

theorem test_decodeTableWord :
    decodeTableWord 40 0xFF000000A5 = some (.wrBuf 63 0xA5) ∧
      decodeTableWord 48 0x10000000000 = none := by decide

/-- The expansion of 30_encoding.md R69 in the words of P1 of 95_test_vectors.md. -/
theorem test_expand_crc_stream :
    (expand (.crcStream [0x31, 0x32])).map encode =
      [0x8000000001#40, 0x8300000031#40, 0x8300000032#40, 0x0400000000#40] := by decide

/-! ## The CRC engine -/

/-- V-T2 to V-T8. -/
theorem test_table_entries :
    tableEntry 0x01 = 0x77073096 ∧ tableEntry 0x10 = 0x1DB71064 ∧ tableEntry 0x80 = 0xEDB88320 ∧
      tableEntry 0xCE = 0x7CDCEFB7 ∧ tableEntry 0xFF = 0x2D02EF8D := by decide +kernel

/-- V-T9. -/
theorem test_table_totals :
    table.length = 256 ∧ table.foldl (· ^^^ ·) 0 = 0 ∧
      (table.map BitVec.toNat).foldl (· + ·) 0 = 0x7FFFFFFF80 := by decide +kernel

/-- V-U1, V-U8: the shift is logical. -/
theorem test_crcUpd_shifts_logically :
    goesTo (exec (.crcUpd 0x00) (withAcc 0xFFFFFFFF)) (fun t => t == withAcc 0x2DFD1072) = true ∧
      goesTo (exec (.crcUpd 0x00) (withAcc 0x80000000)) (fun t => t == withAcc 0x00800000) = true := by
  decide +kernel

/-- V-U10, V-U11. -/
theorem test_crcUpd_mixed_values :
    goesTo (exec (.crcUpd 0x9A) (withAcc 0x12345678)) (fun t => t == withAcc 0x4E16B702) = true ∧
      goesTo (exec (.crcUpd 0x42) (withAcc 0xDEADBEEF)) (fun t => t == withAcc 0xA8B972EB) = true := by
  decide +kernel

/-- V-C5, V-C8, V-C14. -/
theorem test_crc32_vectors :
    crc32 [0x61, 0x62, 0x63] = 0x352441C2 ∧ crc32 [0xFF, 0xFF, 0xFF, 0xFF] = 0xFFFFFFFF ∧
      crc32 pay = 0xED61B8C2 := by decide +kernel

/-- V-R20: `D[31:8]` of a command is ignored. -/
theorem test_crcInit_by_a_wide_word :
    goesTo (exec (decode 0x8000000101#40) { withAcc 5 with result := 0xFF })
      (fun t => t == withAcc 0xFFFFFFFF) = true := by decide +kernel

/-- V-R11. -/
theorem test_wrAcc_rdAcc_crcFin :
    goesTo (exec (.wrAcc 0x12345678) (State.resetOf true)) (fun t => t == withAcc 0x12345678) = true ∧
      answers (exec .rdAcc (withAcc 0x12345678)) (withAcc 0x12345678) 0x12345678 = true ∧
      answers (exec .crcFin (withAcc 0x12345678)) (withAcc 0x12345678) 0xEDCBA987 = true := by
  decide +kernel

/-- V-R8, V-R9: the index is `D[7:0]` and does not advance. -/
theorem test_table_window :
    goesTo (exec (decode 0x8500000180#40) (State.resetOf true)) (fun t => t.tblIdx == 0x80) = true ∧
      answers (exec .rdTblidx { State.resetOf true with tblIdx := 0x80 })
        { State.resetOf true with tblIdx := 0x80 } 0x00000080 = true ∧
      answers (exec .rdTbl { State.resetOf true with tblIdx := 0xFF })
        { State.resetOf true with tblIdx := 0xFF } 0x2D02EF8D = true := by decide +kernel

/-! ## The codec -/

/-- V-E2. -/
theorem test_cfgEnc_image :
    goesTo (exec .cfgEnc recS8) (fun t => t.bufBytes 0 31 == pay ++ payCrc ++ [0] && t.bufLen == 30 &&
      t.result == 0 && t.acc == recS8.acc) = true := by decide +kernel

/-- V-E8, V-E11, V-E13. -/
theorem test_cfgEnc_shape :
    goesTo (exec .cfgEnc { recS8 with recNax := 7 })
        (fun t => t == { recS8 with recNax := 7, result := 1 }) = true ∧
      goesTo (exec .cfgEnc { recS8 with recNbt := 17 })
        (fun t => t == { recS8 with recNbt := 17, result := 1 }) = true ∧
      goesTo (exec .cfgEnc { recS8 with recNax := 16, recNbt := 8 })
        (fun t => t == { recS8 with recNax := 16, recNbt := 8, result := 1 }) = true := by decide +kernel

/-- V-D1, V-D3, V-D13, V-D17, V-D19. -/
theorem test_cfgDec_loads :
    decLoadsS8 (withBuf true (0x03 :: pay) 27) = true ∧
      decLoadsS8 (withBuf false ([0x03, 0x01, 0x7E] ++ pay.drop 2) 27) = true ∧
      decLoadsS8 (wireS8 true) = true ∧
      decLoadsS8 (withBuf true (0x03 :: pay ++ payCrc.take 3) 30) = true ∧
      decLoadsS8 (withBuf true (0x03 :: pay ++ payCrc ++ List.replicate 33 0x5A) 64) = true := by
  decide +kernel

/-- V-D4, V-D7, V-D8, V-D9, V-D11, V-D14 (both parameter values), V-D21. -/
theorem test_cfgDec_errors_and_their_order :
    decFails (withBuf true ([0x03, 0x02] ++ pay.drop 1) 27) 2 = true ∧
      decFails (withBuf true (0x03 :: pay.take 25) 26) 4 = true ∧
      decFails (withBuf true ([0x03, 0x02] ++ (pay.drop 1).take 24) 26) 2 = true ∧
      decFails (withBuf true [0x03] 1) 4 = true ∧ decFails (withBuf true [0x03, 0x01] 2) 4 = true ∧
      decFails (withBuf true (0x03 :: pay ++ [0xC2, 0xB8, 0x61, 0xEC]) 31) 3 = true ∧
      decLoadsS8 (withBuf false (0x03 :: pay ++ [0xC2, 0xB8, 0x61, 0xEC]) 31) = true ∧
      decFails (withBuf true ([0x03, 0x02] ++ pay.drop 1 ++ payCrc) 31) 2 = true := by decide +kernel

/-- `decode` on the same bytes, V-D8 and V-D13, and S8 as signed codes. -/
theorem test_decodeRecord :
    decodeRecord true ([0x03, 0x02] ++ (pay.drop 1).take 24) = .error .unsupportedVersion ∧
      (decodeRecord true (wireImage (pay ++ payCrc))).toOption.map ConfigRecord.axes =
        some [1, 2, 3, 4, -1, -2, -3, -4] := by decide +kernel

/-! ## Registers -/

/-- V-R1 to V-R4. -/
theorem test_wrBuflen_clamps :
    goesTo (exec (decode 0x87000000C8#40) (State.resetOf true)) (fun t => t.bufLen == 64) = true ∧
      goesTo (exec (decode 0x8700000041#40) (State.resetOf true)) (fun t => t.bufLen == 64) = true ∧
      goesTo (exec (decode 0x8700000100#40) (State.resetOf true)) (fun t => t.bufLen == 0) = true := by
  decide +kernel

/-- V-R7, V-R1: counts are not clamped but truncated; a length reads zero-extended. -/
theorem test_scalar_writes_and_reads :
    goesTo (exec (decode 0x8900000108#40) (State.resetOf true)) (fun t => t.recNax == 8) = true ∧
      goesTo (exec (.wrNbt 0xFF) (State.resetOf true)) (fun t => t.recNbt == 0xFF) = true ∧
      goesTo (exec (.wrRver 0x02) (State.resetOf true)) (fun t => t.recVersion == 0x02) = true ∧
      answers (exec .rdBuflen (withBuf true [] 64)) (withBuf true [] 64) 0x00000040 = true ∧
      answers (exec .rdNax recS8) recS8 0x00000008 = true ∧
      answers (exec .rdNbt recS8) recS8 0x00000010 = true ∧
      answers (exec .rdRver recS8) recS8 0x00000000 = true := by decide +kernel

/-- V-R5, V-R6. -/
theorem test_wrAxis_truncates_and_rdAxis_zero_extends :
    goesTo (exec (decode 0x930000012C#40) (State.resetOf true))
        (fun t => t.axis == #v[0, 0, 0, 0x2C, 0, 0, 0, 0]) = true ∧
      answers (exec (decode 0x1400000000#40) recS8) recS8 0x000000FF = true := by decide +kernel

/-- 42_register_access.md R141, R142. -/
theorem test_wrBtn_rdBtn :
    goesTo (exec (.wrBtn 15 0xF6) (State.resetOf true)) (fun t => t.btn ==
        #v[0, 0, 0, 0, 0, 0, 0, 0, 0, 0, 0, 0, 0, 0, 0, 0xF6]) = true ∧
      answers (exec (.rdBtn 7) recS8) recS8 0x00000008 = true := by decide +kernel

/-- V-R10; and a byte written back to 0 leaves no cell. -/
theorem test_wrBuf_rdBuf :
    goesTo (exec (.wrBuf 63 0xA5) (State.resetOf true)) (fun t => t.buf == [(63, 0xA5)]) = true ∧
      goesTo (exec (.wrBuf 1 0x00) (withBuf true [7, 8, 9] 3))
        (fun t => t.buf == [(0, 7), (2, 9)] && t.bufLen == 3) = true ∧
      answers (exec (.rdBuf 1) (withBuf true [7, 8, 9] 0)) (withBuf true [7, 8, 9] 0) 8 = true := by
  decide +kernel

/-- V-R18, V-R19, V-R14, V-R13. -/
theorem test_reserved_space :
    goesTo (exec (decode 0x80000000AA#40) recS8) (fun t => t == { recS8 with result := 0xFF }) = true ∧
      answers (exec .rdResult { recS8 with result := 0xFF }) { recS8 with result := 0xFF } 0xFF = true ∧
      goesTo (exec (decode 0x9800000055#40) recS8) (fun t => t == recS8) = true ∧
      answers (exec (decode 0x1800000000#40) recS8) recS8 0 = true := by decide +kernel

/-- The words the host is asked with run as the first instruction after reset. -/
theorem test_first_word_after_reset :
    goesTo (step (State.reset.withFetchWord 40 0xFF000000A5))
      (fun t => t == { State.reset with buf := [(63, 0xA5)] }) = true := by decide +kernel

/-! ## Witnesses for the hypotheses of the statements -/

theorem test_witness_DecodeOfEncodeIsIdentity :
    (Instr.cmdRsvd 0x00).wellFormed = true ∧ (Instr.cmdRsvd 0xFF).wellFormed = true ∧
      (Instr.wrRsvd 0x01).wellFormed = true ∧ (Instr.rdRsvd 0x3F).wellFormed = true ∧
      (Instr.wrBuf 63 0xA5).wellFormed = true := by decide

theorem test_witness_NarrowWriteHighBitsIgnored : (0x00#7 : Addr) ≠ 0x02#7 ∧ (0x7F#7 : Addr) ≠ 0x02#7 := by
  decide

theorem test_witness_StepRunsDecodedInstruction :
    ((State.resetOf true).issue 0x8300000031#40).pending = 0x8300000031#40 :: [] := rfl

theorem test_witness_IdleStepChangesNothing : recS8.pending = [] := rfl

theorem test_witness_ParameterAndRunUntouchedByInstructions :
    exec .cfgEnc recS8 = .next (recS8.storeImage.setResult 0) := rfl

theorem test_witness_SignedViewOfCodes :
    (-128 ≤ (-128 : Int) ∧ (-128 : Int) ≤ 127) ∧ (-128 ≤ (127 : Int) ∧ (127 : Int) ≤ 127) := by decide

theorem test_witness_InvariantKeptByStep :
    Inv ((State.resetOf false).issue 0xFF000000A5#40) ∧
      ∃ t, step ((State.resetOf false).issue 0xFF000000A5#40) = .next t :=
  ⟨⟨by decide, by decide, by decide, by decide⟩, _, rfl⟩

theorem test_witness_OnlyCommandsWriteResult :
    isCommand (.wrBuf 0 1) = false ∧ ∃ t, exec (.wrBuf 0 1) recS8 = .next t := ⟨rfl, _, rfl⟩

/-- At the ends of every range of the register map's read column. -/
theorem test_witness_ReadsFollowRegisterMap :
    ∀ a ∈ [0x00#7, 0x01#7, 0x0A#7, 0x0B#7, 0x0F#7, 0x10#7, 0x17#7, 0x18#7, 0x1F#7, 0x20#7, 0x2F#7,
        0x30#7, 0x3F#7, 0x40#7, 0x7F#7],
      (recS8.issue (txn false a 5)).pending = txn false a 5 :: [] := fun _ _ => rfl

/-- At the ends of every range of the register map's write column. -/
theorem test_witness_WritesFollowRegisterMap :
    ∀ a ∈ [0x01#7, 0x0A#7, 0x0B#7, 0x0F#7, 0x10#7, 0x17#7, 0x18#7, 0x1F#7, 0x20#7, 0x2F#7, 0x30#7,
        0x3F#7, 0x40#7, 0x7F#7],
      a ≠ 0x00#7 ∧ (recS8.issue (txn true a 5)).pending = txn true a 5 :: [] :=
  fun a h => ⟨by revert a; decide, rfl⟩

/-- Every alternative of both clauses, at the ends of its range. -/
theorem test_witness_ReservedAccessesDoNothing :
    (∀ a ∈ [0x00#7, 0x03#7, 0x0B#7, 0x0F#7, 0x18#7, 0x1F#7, 0x30#7, 0x3F#7],
      a = 0x00#7 ∨ a = 0x03#7 ∨ (0x0B#7 ≤ a ∧ a ≤ 0x0F#7) ∨ (0x18#7 ≤ a ∧ a ≤ 0x1F#7) ∨
        (0x30#7 ≤ a ∧ a ≤ 0x3F#7)) ∧
    (∀ a ∈ [0x01#7, 0x04#7, 0x06#7, 0x0B#7, 0x0F#7, 0x18#7, 0x1F#7, 0x30#7, 0x3F#7],
      a = 0x01#7 ∨ a = 0x04#7 ∨ a = 0x06#7 ∨ (0x0B#7 ≤ a ∧ a ≤ 0x0F#7) ∨ (0x18#7 ≤ a ∧ a ≤ 0x1F#7) ∨
        (0x30#7 ≤ a ∧ a ≤ 0x3F#7)) := by decide

theorem test_witness_ReadsAreFreeOfSideEffects :
    (Instr.rdBuf 63).isWrite = false ∧ (∃ t, exec (.rdBuf 63) recS8 = .next t) ∧
      (Instr.wrBuf 63 1).isWrite = true ∧ ∃ t, exec (.wrBuf 63 1) recS8 = .next t :=
  ⟨rfl, ⟨_, rfl⟩, rfl, _, rfl⟩

/-- The first and the last buffer byte, a write of its neighbour and a CFG.ENC in between. -/
theorem test_witness_BufferReadAfterWrite :
    (∀ t ∈ [0xC100000007#40, 0x8000000003#40], mayWriteBuf 0#6 (decode t) = false) ∧
      (∀ t ∈ [0xFE00000007#40, 0x8000000002#40], mayWriteBuf 63#6 (decode t) = false) ∧
      ({ recS8 with pending := txn true (0x40#7 ||| (63#6).setWidth 7) (0#24 ++ 0xA5#8) ::
          ([0xFE00000007#40, 0x8000000002#40] ++ txn false (0x40#7 ||| (63#6).setWidth 7) 0 :: []) } :
        State).pending = txn true (0x40#7 ||| (63#6).setWidth 7) (0#24 ++ 0xA5#8) ::
          ([0xFE00000007#40, 0x8000000002#40] ++ txn false (0x40#7 ||| (63#6).setWidth 7) 0 :: []) :=
  ⟨forall_mem_pair (by decide) (by decide), forall_mem_pair (by decide) (by decide), rfl⟩

theorem test_witness_OneChangedByteChangesChecksum : (0x00#8 : Byte) ≠ 0x80#8 := by decide

/-- Both clauses: a stream with other words between its bytes, CFG.DEC among them. -/
theorem test_witness_StreamingComputesCrc32 :
    (∀ t ∈ [0x8300000061#40, 0x8000000003#40],
      setsAcc (decode t) = false) ∧
    ({ recS8 with pending := txn true 0x00#7 (0#24 ++ 0x01#8) ::
        ([0x8300000061#40, 0x8000000003#40] ++ txn false 0x04#7 0 :: []) } : State).pending =
      txn true 0x00#7 (0#24 ++ 0x01#8) :: ([0x8300000061#40, 0x8000000003#40] ++ txn false 0x04#7 0 :: []) :=
  ⟨forall_mem_pair (by decide) (by decide), rfl⟩

theorem test_witness_OnlyCrcInstructionsWriteAcc :
    Instr.cfgDec ≠ .crcInit ∧ (∀ b, Instr.cfgDec ≠ .crcUpd b) ∧ (∀ v, Instr.cfgDec ≠ .wrAcc v) ∧
      ∃ t, exec .cfgDec (wireS8 true) = .next t :=
  ⟨by decide, fun _ => by simp, fun _ => by simp,
    _, eq_next_stateAfter recS8 (by decide +kernel)⟩

theorem test_witness_CfgEncEffect : recS8.recNax = 8#8 ∧ recS8.recNbt = 16#8 := by decide

/-- Each alternative alone, just beside the good count. -/
theorem test_witness_CfgEncEffect_wrong_shape :
    ({ recS8 with recNax := 7 } : State).recNax ≠ 8#8 ∧ ({ recS8 with recNax := 9 } : State).recNax ≠ 8#8 ∧
      ({ recS8 with recNbt := 15 } : State).recNbt ≠ 16#8 ∧
      ({ recS8 with recNbt := 17 } : State).recNbt ≠ 16#8 := by decide

/-- The shortest length that decodes, and a verified checksum at the length where one is present. -/
theorem test_witness_CfgDecEffect_success :
    (27 ≤ (withBuf true (0x03 :: pay) 27).bufLen.toNat ∧
      (withBuf true (0x03 :: pay) 27).bufGet 1#6 = 0x01#8 ∧
      ¬ 31 ≤ (withBuf true (0x03 :: pay) 27).bufLen.toNat) ∧
    (27 ≤ (wireS8 true).bufLen.toNat ∧ (wireS8 true).bufGet 1#6 = 0x01#8 ∧
      (wireS8 true).decVerifyCrc = true ∧ 31 ≤ (wireS8 true).bufLen.toNat ∧
      fromLe32 ((wireS8 true).bufGet 27#6) ((wireS8 true).bufGet 28#6) ((wireS8 true).bufGet 29#6)
        ((wireS8 true).bufGet 30#6) = crc32 ((wireS8 true).bufBytes 1 26)) := by decide +kernel

/-- A state of every branch, at the boundary of its length. -/
theorem test_witness_CfgDecEffect_branches :
    (withBuf true [3] 1).bufLen.toNat < 2 ∧
    (2 ≤ (withBuf true [3, 2] 2).bufLen.toNat ∧ (withBuf true [3, 2] 2).bufGet 1#6 ≠ 0x01#8) ∧
    ((withBuf true (3 :: pay) 26).bufGet 1#6 = 0x01#8 ∧ 2 ≤ (withBuf true (3 :: pay) 26).bufLen.toNat ∧
      (withBuf true (3 :: pay) 26).bufLen.toNat < 27) ∧
    ((withBuf true (3 :: pay) 31).decVerifyCrc = true ∧ 31 ≤ (withBuf true (3 :: pay) 31).bufLen.toNat ∧
      (withBuf true (3 :: pay) 31).bufGet 1#6 = 0x01#8 ∧
      fromLe32 ((withBuf true (3 :: pay) 31).bufGet 27#6) ((withBuf true (3 :: pay) 31).bufGet 28#6)
        ((withBuf true (3 :: pay) 31).bufGet 29#6) ((withBuf true (3 :: pay) 31).bufGet 30#6)
        ≠ crc32 ((withBuf true (3 :: pay) 31).bufBytes 1 26)) ∧
    (27 ≤ (withBuf true (3 :: pay) 27).bufLen.toNat ∧ (withBuf true (3 :: pay) 27).bufGet 1#6 = 0x01#8 ∧
      (withBuf true (3 :: pay) 27).bufLen.toNat < 31) := by decide +kernel

/-- A record at the ends of the range of codes. -/
theorem test_witness_PureRoundTrip :
    let r : ConfigRecord := ⟨0x01, List.replicate 8 (-128), List.replicate 16 127⟩
    r.axes.length = 8 ∧ r.buttons.length = 16 ∧ r.version = 0x01#8 ∧
      ∀ n ∈ r.axes ++ r.buttons, -128 ≤ n ∧ n ≤ 127 := by decide

/-- The image one byte up, at lengths 27 (checksum undeclared) and 31. -/
theorem test_witness_EncodeThenDecodeRestoresRecord :
    recS8.recNax = 8#8 ∧ recS8.recNbt = 16#8 ∧
      exec .cfgEnc recS8 = .next (recS8.storeImage.setResult 0) ∧
      (∀ k : Nat, k < 30 → (wireS8 true).bufGet (BitVec.ofNat 6 (k + 1)) =
        (recS8.storeImage.setResult 0).bufGet (BitVec.ofNat 6 k)) ∧
      27 ≤ (wireS8 true).bufLen.toNat ∧
      (∀ k : Nat, k < 30 → (withBuf false (0x00 :: pay ++ payCrc) 27).bufGet (BitVec.ofNat 6 (k + 1)) =
        (recS8.storeImage.setResult 0).bufGet (BitVec.ofNat 6 k)) ∧
      27 ≤ (withBuf false (0x00 :: pay ++ payCrc) 27).bufLen.toNat :=
  ⟨by decide, by decide, rfl, by decide +kernel, by decide +kernel, by decide +kernel, by decide +kernel⟩

/-- A well-shaped record and one with nine axes. -/
theorem test_witness_CfgEncIsEncode :
    (recS8.holds recS8.record) ∧
      ({ State.resetOf true with recNax := 9 } : State).holds ⟨0, List.replicate 9 0, []⟩ := by
  refine ⟨⟨rfl, rfl, rfl, ?_, ?_⟩, ⟨rfl, rfl, rfl, ?_, ?_⟩⟩
  · have h : ∀ i : AxisIdx, ∀ n ∈ recS8.record.axes[i.toNat]?, recS8.axisGet i = u8 n := by decide +kernel
    exact fun i n e => h i n e
  · have h : ∀ j : BtnIdx, ∀ n ∈ recS8.record.buttons[j.toNat]?, recS8.btnGet j = u8 n := by
      decide +kernel
    exact fun j n e => h j n e
  · have h : ∀ i : AxisIdx, ∀ n ∈ (List.replicate 9 (0 : Int))[i.toNat]?,
        ({ State.resetOf true with recNax := 9 } : State).axisGet i = u8 n := by decide +kernel
    exact fun i n e => h i n e
  · exact fun j n e => by simp at e

theorem test_witness_CfgDecIsDecode :
    (wireS8 true).bufLen.toNat ≤ 64 ∧ (withBuf false [] 64).bufLen.toNat ≤ 64 ∧
      (withBuf false [] 0).bufLen.toNat ≤ 64 := by decide

/-- Two states of each clause that differ in what the clause says is of no account. -/
theorem test_witness_CodecOutcomeDependsOnlyOnItsInputs :
    (recS8 ≠ { recS8 with acc := 0, recVersion := 9 } ∧
      recS8.axis = ({ recS8 with acc := 0, recVersion := 9 } : State).axis ∧
      recS8.btn = ({ recS8 with acc := 0, recVersion := 9 } : State).btn ∧
      recS8.recNax = ({ recS8 with acc := 0, recVersion := 9 } : State).recNax ∧
      recS8.recNbt = ({ recS8 with acc := 0, recVersion := 9 } : State).recNbt) ∧
    (wireS8 true ≠ (wireS8 true).bufPut 31 7 ∧
      (wireS8 true).bufLen = ((wireS8 true).bufPut 31 7).bufLen ∧
      (wireS8 true).decVerifyCrc = ((wireS8 true).bufPut 31 7).decVerifyCrc ∧
      (wireS8 true).bufBytes 0 31 = ((wireS8 true).bufPut 31 7).bufBytes 0 31) := by decide +kernel

/-- The first and the last byte the checksum protects. -/
theorem test_witness_OneChangedByteIsDetected :
    (wireS8 true).decVerifyCrc = true ∧ 31 ≤ (wireS8 true).bufLen.toNat ∧
      (∃ t, exec .cfgDec (wireS8 true) = .next t ∧ t.result = 0x00#8) ∧
      (2 ≤ (2#6 : BufIdx).toNat ∧ (0x01#8 : Byte) ≠ (wireS8 true).bufGet 2#6) ∧
      ((30#6 : BufIdx).toNat ≤ 30 ∧ (0xEC#8 : Byte) ≠ (wireS8 true).bufGet 30#6) :=
  ⟨by decide, by decide +kernel,
    ⟨_, eq_next_stateAfter recS8 (by decide +kernel), by decide +kernel⟩,
    by decide +kernel, by decide +kernel⟩

theorem test_witness_ReservedCommandIsIllegal :
    ∀ op ∈ [0x00#8, 0x04#8, 0xFF#8], op ≠ 0x01#8 ∧ op ≠ 0x02#8 ∧ op ≠ 0x03#8 := by decide

theorem test_witness_FailedCommandChangesOnlyResult :
    isCommand .cfgEnc = true ∧
      ∃ t, exec .cfgEnc (State.resetOf true) = .next t ∧ t.result ≠ 0x00#8 :=
  ⟨rfl, _, rfl, by decide⟩

theorem test_witness_CommandErrorCauses :
    (∀ op ∈ [0x00#8, 0x04#8, 0xFF#8], op ≠ 0x01#8 ∧ op ≠ 0x02#8 ∧ op ≠ 0x03#8) ∧
      isCommand (.wrBuf 0 1) = false ∧ ∃ t, exec (.wrBuf 0 1) recS8 = .next t :=
  ⟨by decide, rfl, _, rfl⟩

/-- CFG.DEC at the boundary lengths of the causes of 60_exceptions.md R163, R165, and V-D20. -/
theorem test_cfgDec_causes_at_their_boundaries :
    decFails (withBuf true [3, 2] 2) 2 = true ∧ decFails (withBuf true [3, 1] 2) 4 = true ∧
      decFails (withBuf true (3 :: pay) 26) 4 = true ∧
      decFails (withBuf true (0x03 :: pay ++ [0xC2, 0xB8, 0x61, 0xEC]) 64) 3 = true := by decide +kernel

theorem test_witness_CrcStreamIsChecksum :
    ({ recS8 with pending := (expand (.crcStream pay)).map encode ++ [] } : State).pending =
      (expand (.crcStream pay)).map encode ++ [] := rfl

theorem test_witness_EncodeProgramIsEncode (rest : List Txn) :
    ({ State.resetOf true with
        pending := (expand (.recLoad 0x01 recS8.axis recS8.btn) ++ expand .encode ++
          expand (.bufDump 30)).map encode ++ rest } : State).pending =
      (expand (.recLoad 0x01 recS8.axis recS8.btn) ++ expand .encode ++
        expand (.bufDump 30)).map encode ++ rest := rfl

/-- The shortest and the longest buffer. -/
theorem test_witness_DecodeProgramIsDecode (rest : List Txn) :
    ([] : List Byte).length ≤ 64 ∧ (List.replicate 64 (0x5A#8 : Byte)).length ≤ 64 ∧
      ({ State.resetOf true with
          pending := (expand (.bufLoad (List.replicate 64 0x5A#8)) ++ expand .decode ++
            expand .recDump).map encode ++ rest } : State).pending =
        (expand (.bufLoad (List.replicate 64 0x5A#8)) ++ expand .decode ++
          expand .recDump).map encode ++ rest := ⟨by decide, by decide, rfl⟩

end Sys2Proof.Tests
end

/-! SUPPORT. The statements of 00_scope.md. The outcome of every instruction is described once, by
`GoesOnKeepingRun`: the step goes on, and the open parameter (R7) and the words still to come (R13) are
as they were. -/

namespace Sys2Proof.Scope

open Sys2Proof.Machine

/-! ## What every outcome keeps -/

/-- The outcome is a next state with the open parameter and the further words of `s`. -/
def GoesOnKeepingRun (s : State) (o : Outcome) : Prop :=
  ∃ t, o = .next t ∧ t.decVerifyCrc = s.decVerifyCrc ∧ t.pending = s.pending

theorem GoesOnKeepingRun.safe {s : State} {o : Outcome} (h : GoesOnKeepingRun s o) :
    SafeOutcome o := by
  obtain ⟨t, ho, -, -⟩ := h
  exact ⟨t, ho⟩

theorem GoesOnKeepingRun.of_next {s t : State} (h : GoesOnKeepingRun s (.next t)) :
    t.decVerifyCrc = s.decVerifyCrc ∧ t.pending = s.pending := by
  obtain ⟨u, hu, hkeeps⟩ := h
  cases hu
  exact hkeeps

/-! The shared ways an instruction ends -/

theorem next_goesOnKeepingRun {s t : State} (hverify : t.decVerifyCrc = s.decVerifyCrc)
    (hpending : t.pending = s.pending) : GoesOnKeepingRun s (.next t) :=
  ⟨t, rfl, hverify, hpending⟩

theorem respond_goesOnKeepingRun (s : State) (v : Word) : GoesOnKeepingRun s (respond s v) :=
  ⟨_, respond_next.mpr rfl, rfl, rfl⟩

theorem raiseError_goesOnKeepingRun (e : CmdError) (s : State) :
    GoesOnKeepingRun s (raiseError e s) :=
  ⟨_, raiseError_next.mpr rfl, State.setResult_decVerifyCrc s _, State.setResult_pending s _⟩

/-! The three defined commands -/

theorem execCrcInit_goesOnKeepingRun (s : State) : GoesOnKeepingRun s (execCrcInit s) :=
  ⟨_, succeed_next.mpr rfl, State.setResult_decVerifyCrc _ _, State.setResult_pending _ _⟩

theorem execCfgEnc_goesOnKeepingRun (s : State) : GoesOnKeepingRun s (execCfgEnc s) := by
  obtain ⟨-, hnext⟩ | ⟨-, hnext⟩ := execCfgEnc_cases s
  · exact ⟨_, hnext, by simp, by simp⟩
  · exact ⟨_, hnext, by simp, by simp⟩

theorem execCfgDec_goesOnKeepingRun (s : State) : GoesOnKeepingRun s (execCfgDec s) := by
  obtain ⟨-, hnext⟩ | ⟨e, -, hnext⟩ := execCfgDec_cases s
  · exact ⟨_, hnext, by simp, by simp⟩
  · exact ⟨_, hnext, by simp, by simp⟩

/-- No instruction faults or refuses, and none touches the open parameter or the run. A command is its
own lemma, a register write updates one other field, and a read only responds. -/
theorem exec_goesOnKeepingRun (i : Instr) (s : State) : GoesOnKeepingRun s (exec i s) := by
  cases i with
  | crcInit => exact execCrcInit_goesOnKeepingRun s
  | cfgEnc => exact execCfgEnc_goesOnKeepingRun s
  | cfgDec => exact execCfgDec_goesOnKeepingRun s
  | cmdRsvd op => exact raiseError_goesOnKeepingRun .illegalCommand s
  | wrAcc | crcUpd | wrTblidx | wrBuflen | wrRver | wrNax | wrNbt | wrAxis | wrBtn | wrBuf | wrRsvd =>
    exact next_goesOnKeepingRun rfl rfl
  | rdResult | rdAcc | crcFin | rdTblidx | rdTbl | rdBuflen | rdRver | rdNax | rdNbt | rdAxis | rdBtn
  | rdBuf | rdRsvd =>
    exact respond_goesOnKeepingRun s _

/-! ## The step -/

/-- With no word to come, a step leaves the state as it is. -/
theorem step_of_pending_nil {s : State} (h : s.pending = []) : step s = .next s := by
  simp only [step, fetch_nil h]

/-- With a word to come, a step takes it and runs the instruction it decodes to. -/
theorem step_of_pending_cons {s : State} {t : Txn} {rest : List Txn} (h : s.pending = t :: rest) :
    step s = exec (decode t) { s with pending := rest } := by
  simp only [step, fetch_cons h]

/-- Settles O10: an idle step stays, and any other step runs an instruction, each of which goes on. -/
theorem everyStepGoesOn : Obligations.EveryStepGoesOn := by
  intro s
  cases h : s.pending with
  | nil => exact ⟨s, step_of_pending_nil h⟩
  | cons t rest =>
    rw [step_of_pending_cons h]
    exact (exec_goesOnKeepingRun _ _).safe

/-- Settles O11, from what every instruction's outcome keeps. -/
theorem parameterAndRunUntouchedByInstructions :
    Obligations.ParameterAndRunUntouchedByInstructions := by
  intro i s t hnext
  have hkeeps := exec_goesOnKeepingRun i s
  rw [hnext] at hkeeps
  exact hkeeps.of_next

/-- Settles O8. -/
theorem stepRunsDecodedInstruction : Obligations.StepRunsDecodedInstruction :=
  fun _ _ _ => step_of_pending_cons

/-! ## The signed view of a code (00_scope.md R11) -/

/-- R11's case split at `0x7F` is the sign bit's. -/
theorem s8_eq_toInt (b : Byte) : s8 b = b.toInt := by
  rw [s8, BitVec.toInt_eq_toNat_cond]
  split_ifs <;> omega

theorem u8_s8 (b : Byte) : u8 (s8 b) = b := by
  rw [s8_eq_toInt, u8, BitVec.ofInt_toInt]

theorem s8_u8 {n : Int} (hlo : -128 ≤ n) (hhi : n ≤ 127) : s8 (u8 n) = n := by
  rw [s8_eq_toInt, u8]
  exact BitVec.toInt_ofInt_eq_self (by decide) (by omega) (by omega)

theorem toNat_u8 (n : Int) : ((u8 n).toNat : Int) = n % 256 := by
  have hnonneg : 0 ≤ n % 256 := Int.emod_nonneg n (by decide)
  rw [u8, BitVec.toNat_ofInt]
  exact Int.toNat_of_nonneg hnonneg

/-- Settles O12: its four parts are the lemmas above. -/
theorem signedViewOfCodes : Obligations.SignedViewOfCodes :=
  ⟨s8_eq_toInt, u8_s8, fun _ => s8_u8, toNat_u8⟩

end Sys2Proof.Scope

/-! SUPPORT. The statements of 10_state.md. The two frames (who writes `ACC`, who writes `RESULT`) go
through the arms of `exec` once each; the invariant has one lemma per state operation, and each arm of
`exec` is one of those operations or leaves every field the invariant speaks of. -/

namespace Sys2Proof

open Sys2Proof.Machine

/-! ## The facts the invariant turns on -/

theorem toNat_clampLen (v : Byte) : (clampLen v).toNat = min v.toNat Config.bufSize := by
  have hfits : min v.toNat Config.bufSize < 2 ^ 7 := by
    simp only [Config.bufSize]
    omega
  rw [clampLen, BitVec.toNat_ofNat, Nat.mod_eq_of_lt hfits]

/-- Of the codes of 60_exceptions.md R161, `0x03` stands for ChecksumMismatch alone. -/
theorem code_eq_checksumMismatch {e : CmdError} :
    e.code = CmdError.checksumMismatch.code ↔ e = .checksumMismatch := by
  cases e <;> decide

/-! ## The invariant under each state operation -/

/-- The invariant speaks of four fields only. -/
theorem Inv.of_eq {s t : State} (h : Inv s) (hbuf : t.buf = s.buf) (hlen : t.bufLen = s.bufLen)
    (hresult : t.result = s.result) (hverify : t.decVerifyCrc = s.decVerifyCrc) : Inv t where
  buf_wf := hbuf ▸ h.buf_wf
  bufLen_le := hlen ▸ h.bufLen_le
  result_code := hresult ▸ h.result_code
  result_verify := by rw [hresult, hverify]; exact h.result_verify

theorem Inv.setResult {s : State} {c : Byte} (h : Inv s) (hcode : c ∈ resultCodes)
    (hverify : s.decVerifyCrc = false → c ≠ CmdError.checksumMismatch.code) :
    Inv (s.setResult c) where
  buf_wf := h.buf_wf
  bufLen_le := h.bufLen_le
  result_code := hcode
  result_verify := hverify

theorem Inv.setResult_resOk {s : State} (h : Inv s) : Inv (s.setResult resOk) :=
  h.setResult (by decide) fun _ => (CmdError.code_ne_resOk .checksumMismatch).symm

/-- An error keeps the invariant if a checksum is verified wherever it is ChecksumMismatch. -/
theorem Inv.setResult_code {s : State} {e : CmdError} (h : Inv s)
    (hverify : e = .checksumMismatch → s.decVerifyCrc = true) : Inv (s.setResult e.code) := by
  refine h.setResult e.code_mem fun hunverified hcode => ?_
  have hverified := hverify (code_eq_checksumMismatch.mp hcode)
  simp [hunverified] at hverified

theorem Inv.bufPut {s : State} (h : Inv s) (k : BufIdx) (v : Byte) : Inv (s.bufPut k v) where
  buf_wf := Memory.wf_writeByte h.buf_wf k v
  bufLen_le := h.bufLen_le
  result_code := h.result_code
  result_verify := h.result_verify

theorem Inv.clampLen {s : State} (h : Inv s) (v : Byte) : Inv { s with bufLen := clampLen v } where
  buf_wf := h.buf_wf
  bufLen_le := toNat_clampLen v ▸ Nat.min_le_right _ _
  result_code := h.result_code
  result_verify := h.result_verify

theorem Inv.storeImage {s : State} (h : Inv s) : Inv s.storeImage where
  buf_wf := Memory.wf_writeBytes h.buf_wf 0 _
  bufLen_le := by rw [State.storeImage_bufLen]; decide
  result_code := h.result_code
  result_verify := h.result_verify

theorem Inv.loadRecord {s : State} (h : Inv s) : Inv s.loadRecord :=
  h.of_eq (by simp) (by simp) (by simp) (by simp)

end Sys2Proof

namespace Sys2Proof.StateChange

open Sys2Proof.Machine

/-! ## Who writes `RESULT` and `ACC` -/

/-- Settles O16: a register write updates one other field, and a read only responds. -/
theorem onlyCommandsWriteResult : Obligations.OnlyCommandsWriteResult := by
  intro i s t hnext hcommand
  cases i with
  | crcInit | cfgEnc | cfgDec | cmdRsvd => simp [isCommand] at hcommand
  | wrAcc | crcUpd | wrTblidx | wrBuflen | wrRver | wrNax | wrNbt | wrAxis | wrBtn | wrBuf | wrRsvd =>
    cases hnext
    rfl
  | rdResult | rdAcc | crcFin | rdTblidx | rdTbl | rdBuflen | rdRver | rdNax | rdNbt | rdAxis | rdBtn
  | rdBuf | rdRsvd =>
    obtain rfl := respond_next.mp hnext
    rfl

/-- The checksum of CFG.ENC is computed apart from `ACC` (41_config_codec.md R116). -/
theorem execCfgEnc_keeps_acc {s t : State} (hnext : execCfgEnc s = .next t) : t.acc = s.acc := by
  obtain ⟨-, hcase⟩ | ⟨-, hcase⟩ := execCfgEnc_cases s
  all_goals
    cases hcase.symm.trans hnext
    simp

/-- The checksum of CFG.DEC is computed apart from `ACC` (41_config_codec.md R116). -/
theorem execCfgDec_keeps_acc {s t : State} (hnext : execCfgDec s = .next t) : t.acc = s.acc := by
  obtain ⟨-, hcase⟩ | ⟨e, -, hcase⟩ := execCfgDec_cases s
  all_goals
    cases hcase.symm.trans hnext
    simp

/-- Settles O33: the codec commands are the two lemmas above, any other instruction but the three
excluded updates one other field or only responds. -/
theorem onlyCrcInstructionsWriteAcc : Obligations.OnlyCrcInstructionsWriteAcc := by
  intro i s t hnext hinit hupd hwr
  cases i with
  | crcInit => exact absurd rfl hinit
  | crcUpd b => exact absurd rfl (hupd b)
  | wrAcc v => exact absurd rfl (hwr v)
  | cfgEnc => exact execCfgEnc_keeps_acc hnext
  | cfgDec => exact execCfgDec_keeps_acc hnext
  | cmdRsvd =>
    obtain rfl := raiseError_next.mp hnext
    exact State.setResult_acc s _
  | wrTblidx | wrBuflen | wrRver | wrNax | wrNbt | wrAxis | wrBtn | wrBuf | wrRsvd =>
    cases hnext
    rfl
  | rdResult | rdAcc | crcFin | rdTblidx | rdTbl | rdBuflen | rdRver | rdNax | rdNbt | rdAxis | rdBtn
  | rdBuf | rdRsvd =>
    obtain rfl := respond_next.mp hnext
    rfl

/-! ## The invariant under each instruction -/

theorem execCfgEnc_keeps_inv {s t : State} (h : Inv s) (hnext : execCfgEnc s = .next t) : Inv t := by
  obtain ⟨-, hcase⟩ | ⟨-, hcase⟩ := execCfgEnc_cases s
  · cases hcase.symm.trans hnext
    exact h.storeImage.setResult_resOk
  · cases hcase.symm.trans hnext
    exact h.setResult_code nofun

/-- CFG.DEC can answer ChecksumMismatch, but only where a checksum is verified. -/
theorem execCfgDec_keeps_inv {s t : State} (h : Inv s) (hnext : execCfgDec s = .next t) : Inv t := by
  obtain ⟨-, hcase⟩ | ⟨e, herror, hcase⟩ := execCfgDec_cases s
  · cases hcase.symm.trans hnext
    exact h.loadRecord.setResult_resOk
  · cases hcase.symm.trans hnext
    exact h.setResult_code fun he => decodeError_checksumMismatch (he ▸ herror)

theorem exec_keeps_inv {i : Instr} {s t : State} (h : Inv s) (hnext : exec i s = .next t) : Inv t := by
  cases i with
  | crcInit =>
    obtain rfl := succeed_next.mp hnext
    exact Inv.setResult_resOk (h.of_eq rfl rfl rfl rfl)
  | cfgEnc => exact execCfgEnc_keeps_inv h hnext
  | cfgDec => exact execCfgDec_keeps_inv h hnext
  | cmdRsvd =>
    obtain rfl := raiseError_next.mp hnext
    exact h.setResult_code nofun
  | wrBuflen v =>
    cases hnext
    exact h.clampLen v
  | wrBuf k v =>
    cases hnext
    exact h.bufPut k v
  | wrAcc | crcUpd | wrTblidx | wrRver | wrNax | wrNbt | wrAxis | wrBtn | wrRsvd =>
    cases hnext
    exact h.of_eq rfl rfl rfl rfl
  | rdResult | rdAcc | crcFin | rdTblidx | rdTbl | rdBuflen | rdRver | rdNax | rdNbt | rdAxis | rdBtn
  | rdBuf | rdRsvd =>
    obtain rfl := respond_next.mp hnext
    exact h.of_eq rfl rfl rfl rfl

/-- Settles O15: an idle step stays, and any other step takes a word, of which the invariant does not
speak, and runs an instruction. -/
theorem invariantKeptByStep : Obligations.InvariantKeptByStep := by
  intro s t h hstep
  cases hpending : s.pending with
  | nil =>
    rw [Scope.step_of_pending_nil hpending] at hstep
    cases hstep
    exact h
  | cons word rest =>
    rw [Scope.step_of_pending_cons hpending] at hstep
    have htaken : Inv { s with pending := rest } := h.of_eq rfl rfl rfl rfl
    exact exec_keeps_inv htaken hstep

end Sys2Proof.StateChange

/-! SUPPORT. The statements of 20_memory.md. The two decoder functions of `Laws/Decode.lean` test address
masks and the register map tests address ranges; once the masks are known to be the ranges, the two go
through the same branches. A buffer byte is then followed through a run by one induction over words. -/

namespace Sys2Proof.RegisterMap

open Sys2Proof.Machine

/-! ## The masks of the opcode rows are the ranges of the register map -/

theorem isAxisAddr_iff : ∀ a : Addr, a &&& 0x78#7 = 0x10#7 ↔ 0x10 ≤ a.toNat ∧ a.toNat ≤ 0x17 := by
  decide

theorem isBtnAddr_iff : ∀ a : Addr, a &&& 0x70#7 = 0x20#7 ↔ 0x20 ≤ a.toNat ∧ a.toNat ≤ 0x2F := by
  decide

theorem isBufAddr_iff : ∀ a : Addr, a &&& 0x40#7 = 0x40#7 ↔ 0x40 ≤ a.toNat := by
  decide

/-! An array's base address is a multiple of its size, so the low address bits are the offset. -/

theorem axisIdx_eq_offset {a : Addr} (h : 0x10 ≤ a.toNat) :
    axisIdx a = BitVec.ofNat 3 (a.toNat - 0x10) := by
  apply BitVec.eq_of_toNat_eq
  simp only [axisIdx, BitVec.extractLsb'_toNat, BitVec.toNat_ofNat, Nat.shiftRight_zero]
  omega

theorem btnIdx_eq_offset {a : Addr} (h : 0x20 ≤ a.toNat) :
    btnIdx a = BitVec.ofNat 4 (a.toNat - 0x20) := by
  apply BitVec.eq_of_toNat_eq
  simp only [btnIdx, BitVec.extractLsb'_toNat, BitVec.toNat_ofNat, Nat.shiftRight_zero]
  omega

theorem bufIdx_eq_offset {a : Addr} (h : 0x40 ≤ a.toNat) :
    bufIdx a = BitVec.ofNat 6 (a.toNat - 0x40) := by
  apply BitVec.eq_of_toNat_eq
  simp only [bufIdx, BitVec.extractLsb'_toNat, BitVec.toNat_ofNat, Nat.shiftRight_zero]
  omega

/-! ## Reads and writes by the map -/

/-- CRC.FIN's exclusive or with `CRC_XOROUT` is the map's `not_32(ACC)`. -/
theorem execCrcFin_eq_respond_not (s : State) : execCrcFin s = respond s (~~~s.acc) := by
  have hxorOut : Config.crcXorOut = BitVec.allOnes 32 := by decide
  rw [execCrcFin, hxorOut, BitVec.xor_allOnes]

/-- Two chains of tests, one over instructions and one over the map's values, agree if their first tests
do, their first branches do and the rest of the two chains does. -/
theorem exec_ite {α : Type} {f : α → Outcome} {c c' : Prop} [Decidable c] [Decidable c'] {i j : Instr}
    {x y : α} {s : State} (htest : c ↔ c') (hthen : c' → exec i s = f x)
    (helse : ¬ c' → exec j s = f y) :
    exec (if c then i else j) s = f (if c' then x else y) := by
  by_cases h : c'
  · rw [if_pos (htest.mpr h), if_pos h, hthen h]
  · rw [if_neg (mt htest.mp h), if_neg h, helse h]

/-- The instruction of a read address answers that address's row of the map. -/
theorem exec_readInstr (s : State) (a : Addr) : exec (readInstr a) s = respond s (mapRead s a) := by
  refine exec_ite (f := respond s) .rfl (fun _ => rfl) fun _ => ?notResult
  refine exec_ite .rfl (fun _ => rfl) fun _ => ?notAcc
  refine exec_ite .rfl (fun _ => execCrcFin_eq_respond_not s) fun _ => ?notSum
  refine exec_ite .rfl (fun _ => rfl) fun _ => ?notTblIdx
  refine exec_ite .rfl (fun _ => rfl) fun _ => ?notTblData
  refine exec_ite .rfl (fun _ => rfl) fun _ => ?notBufLen
  refine exec_ite .rfl (fun _ => rfl) fun _ => ?notVersion
  refine exec_ite .rfl (fun _ => rfl) fun _ => ?notNax
  refine exec_ite .rfl (fun _ => rfl) fun _ => ?notNbt
  refine exec_ite (isAxisAddr_iff a) (fun h => ?axis) fun _ => ?notAxis
  case axis => rw [axisIdx_eq_offset h.1]; rfl
  refine exec_ite (isBtnAddr_iff a) (fun h => ?btn) fun _ => ?notBtn
  case btn => rw [btnIdx_eq_offset h.1]; rfl
  refine exec_ite (isBufAddr_iff a) (fun h => ?buf) fun _ => rfl
  case buf => rw [bufIdx_eq_offset h]; rfl

/-- The instruction of a write address other than `CMD` leaves what that address's row of the map says. -/
theorem exec_writeInstr (s : State) {a : Addr} (d : Word) (hcmd : a ≠ 0x00#7) :
    exec (writeInstr a d) s = .next (mapWrite s a d) := by
  rw [writeInstr, if_neg hcmd]
  refine exec_ite (f := .next) .rfl (fun _ => rfl) fun _ => ?notAcc
  refine exec_ite .rfl (fun _ => rfl) fun _ => ?notData
  refine exec_ite .rfl (fun _ => rfl) fun _ => ?notTblIdx
  refine exec_ite .rfl (fun _ => rfl) fun _ => ?notBufLen
  refine exec_ite .rfl (fun _ => rfl) fun _ => ?notVersion
  refine exec_ite .rfl (fun _ => rfl) fun _ => ?notNax
  refine exec_ite .rfl (fun _ => rfl) fun _ => ?notNbt
  refine exec_ite (isAxisAddr_iff a) (fun h => ?axis) fun _ => ?notAxis
  case axis => rw [axisIdx_eq_offset h.1]; rfl
  refine exec_ite (isBtnAddr_iff a) (fun h => ?btn) fun _ => ?notBtn
  case btn => rw [btnIdx_eq_offset h.1]; rfl
  refine exec_ite (isBufAddr_iff a) (fun h => ?buf) fun _ => rfl
  case buf => rw [bufIdx_eq_offset h]; rfl

/-- Settles O17: the step runs the address's read instruction, which answers the map's value. -/
theorem readsFollowRegisterMap : Obligations.ReadsFollowRegisterMap := by
  intro s a d rest hpending
  rw [Scope.step_of_pending_cons hpending, decode_read, exec_readInstr]
  rfl

/-- Settles O18: the step runs the address's write instruction, which leaves what the map says. -/
theorem writesFollowRegisterMap : Obligations.WritesFollowRegisterMap := by
  intro s a d rest hcmd hpending
  rw [Scope.step_of_pending_cons hpending, decode_write, exec_writeInstr _ d hcmd]

/-! ## Reads have one response, writes have none (R47 b) -/

theorem exec_read_responds {i : Instr} (s : State) (hread : i.isWrite = false) :
    ∃ v, exec i s = respond s v := by
  cases i with
  | crcInit | cfgEnc | cfgDec | cmdRsvd | wrAcc | crcUpd | wrTblidx | wrBuflen | wrRver | wrNax | wrNbt
  | wrAxis | wrBtn | wrBuf | wrRsvd => simp [Instr.isWrite] at hread
  | rdResult | rdAcc | crcFin | rdTblidx | rdTbl | rdBuflen | rdRver | rdNax | rdNbt | rdAxis | rdBtn
  | rdBuf | rdRsvd => exact ⟨_, rfl⟩

theorem execCfgEnc_keeps_responses {s t : State} (hnext : execCfgEnc s = .next t) :
    t.responses = s.responses := by
  obtain ⟨-, hcase⟩ | ⟨-, hcase⟩ := execCfgEnc_cases s
  all_goals
    cases hcase.symm.trans hnext
    simp

theorem execCfgDec_keeps_responses {s t : State} (hnext : execCfgDec s = .next t) :
    t.responses = s.responses := by
  obtain ⟨-, hcase⟩ | ⟨e, -, hcase⟩ := execCfgDec_cases s
  all_goals
    cases hcase.symm.trans hnext
    simp

theorem exec_write_keeps_responses {i : Instr} {s t : State} (hwrite : i.isWrite = true)
    (hnext : exec i s = .next t) : t.responses = s.responses := by
  cases i with
  | cfgEnc => exact execCfgEnc_keeps_responses hnext
  | cfgDec => exact execCfgDec_keeps_responses hnext
  | crcInit | cmdRsvd | wrAcc | crcUpd | wrTblidx | wrBuflen | wrRver | wrNax | wrNbt | wrAxis | wrBtn
  | wrBuf | wrRsvd =>
    cases hnext
    rfl
  | rdResult | rdAcc | crcFin | rdTblidx | rdTbl | rdBuflen | rdRver | rdNax | rdNbt | rdAxis | rdBtn
  | rdBuf | rdRsvd => simp [Instr.isWrite] at hwrite

/-- Settles O20, from the two lemmas on reads and on writes. -/
theorem readsAreFreeOfSideEffects : Obligations.ReadsAreFreeOfSideEffects := by
  intro i s t hnext
  refine ⟨fun hread => ?_, fun hwrite => exec_write_keeps_responses hwrite hnext⟩
  obtain ⟨v, hresponds⟩ := exec_read_responds s hread
  exact ⟨v, respond_next.mp (hresponds.symm.trans hnext)⟩

/-! ## Reserved accesses (R46) -/

/-- A read address outside every readable row of the map is reserved. -/
theorem readInstr_reserved {a : Addr}
    (h : a = 0x00#7 ∨ a = 0x03#7 ∨ (0x0B#7 ≤ a ∧ a ≤ 0x0F#7) ∨ (0x18#7 ≤ a ∧ a ≤ 0x1F#7) ∨
      (0x30#7 ≤ a ∧ a ≤ 0x3F#7)) : readInstr a = .rdRsvd a := by
  simp only [BitVec.toNat_eq, BitVec.le_def, BitVec.toNat_ofNat, Nat.reducePow, Nat.reduceMod] at h
  simp only [readInstr, isAxisAddr_iff, isBtnAddr_iff, isBufAddr_iff]
  simp only [BitVec.toNat_eq, BitVec.toNat_ofNat, Nat.reducePow, Nat.reduceMod]
  simp (disch := omega) only [if_neg]

/-- A write address outside every writable row of the map is reserved. -/
theorem writeInstr_reserved {a : Addr} (d : Word)
    (h : a = 0x01#7 ∨ a = 0x04#7 ∨ a = 0x06#7 ∨ (0x0B#7 ≤ a ∧ a ≤ 0x0F#7) ∨
      (0x18#7 ≤ a ∧ a ≤ 0x1F#7) ∨ (0x30#7 ≤ a ∧ a ≤ 0x3F#7)) : writeInstr a d = .wrRsvd a := by
  simp only [BitVec.toNat_eq, BitVec.le_def, BitVec.toNat_ofNat, Nat.reducePow, Nat.reduceMod] at h
  simp only [writeInstr, isAxisAddr_iff, isBtnAddr_iff, isBufAddr_iff]
  simp only [BitVec.toNat_eq, BitVec.toNat_ofNat, Nat.reducePow, Nat.reduceMod]
  simp (disch := omega) only [if_neg]

/-- Settles O19: a reserved address decodes to the reserved row, whose meaning is R46's. -/
theorem reservedAccessesDoNothing : Obligations.ReservedAccessesDoNothing :=
  ⟨fun _ a d h => ⟨(decode_read a d).trans (readInstr_reserved h), rfl⟩,
    fun _ a d h => ⟨(decode_write a d).trans (writeInstr_reserved d h), rfl⟩⟩

/-! ## A buffer byte through a run (R49) -/

theorem execCfgEnc_keeps_bufGet {s t : State} {k : BufIdx} (hk : ¬ k.toNat < 30)
    (hnext : execCfgEnc s = .next t) : t.bufGet k = s.bufGet k := by
  obtain ⟨-, hcase⟩ | ⟨-, hcase⟩ := execCfgEnc_cases s
  · cases hcase.symm.trans hnext
    exact (State.bufGet_storeImage s k).trans (if_neg hk)
  · cases hcase.symm.trans hnext
    rfl

theorem execCfgDec_keeps_bufGet {s t : State} (k : BufIdx) (hnext : execCfgDec s = .next t) :
    t.bufGet k = s.bufGet k := by
  obtain ⟨-, hcase⟩ | ⟨e, -, hcase⟩ := execCfgDec_cases s
  all_goals
    cases hcase.symm.trans hnext
    rfl

/-- Only WR.BUF of that byte and CFG.ENC of a byte of the image change a buffer byte. -/
theorem exec_keeps_bufGet {i : Instr} {s t : State} {k : BufIdx} (hmay : mayWriteBuf k i = false)
    (hnext : exec i s = .next t) : t.bufGet k = s.bufGet k := by
  cases i with
  | wrBuf k' v =>
    have hother : k ≠ k' := by simpa [mayWriteBuf] using hmay
    cases hnext
    exact State.bufGet_bufPut_other s v hother
  | cfgEnc =>
    have hk : ¬ k.toNat < 30 := of_decide_eq_false hmay
    exact execCfgEnc_keeps_bufGet hk hnext
  | cfgDec => exact execCfgDec_keeps_bufGet k hnext
  | crcInit | cmdRsvd | wrAcc | crcUpd | wrTblidx | wrBuflen | wrRver | wrNax | wrNbt | wrAxis | wrBtn
  | wrRsvd =>
    cases hnext
    rfl
  | rdResult | rdAcc | crcFin | rdTblidx | rdTbl | rdBuflen | rdRver | rdNax | rdNbt | rdAxis | rdBtn
  | rdBuf | rdRsvd =>
    obtain rfl := respond_next.mp hnext
    rfl

/-- A run over the words `ts` completes and takes them; what taking a word leaves alone and every word
of `ts` keeps is kept. -/
theorem run_words_keeps {P : State → Prop} {ts more : List Txn} {s : State}
    (hpending : s.pending = ts ++ more)
    (htaken : ∀ (s : State) (rest : List Txn), P s → P { s with pending := rest })
    (hkeeps : ∀ w ∈ ts, ∀ s t : State, P s → exec (decode w) s = .next t → P t) (h : P s) :
    ∃ u : State, (∀ n, Host.Core.run Sys2Proof.core (n + ts.length) s
      = Host.Core.run Sys2Proof.core n u) ∧ u.pending = more ∧ P u := by
  induction ts generalizing s with
  | nil => exact ⟨s, fun _ => rfl, hpending, h⟩
  | cons w ts ih =>
    have hstep := Scope.step_of_pending_cons hpending
    obtain ⟨t, hnext, -, htpending⟩ :=
      Scope.exec_goesOnKeepingRun (decode w) { s with pending := ts ++ more }
    have ht : P t := hkeeps w (by simp) _ t (htaken s _ h) hnext
    obtain ⟨u, hrun, hu⟩ := ih htpending (fun w' hw' => hkeeps w' (by simp [hw'])) ht
    exact ⟨u, fun n => (run_succ_next _ (hstep.trans hnext)).trans (hrun n), hu⟩

theorem toNat_bufAddr (k : BufIdx) : (0x40#7 ||| k.setWidth 7).toNat = 0x40 + k.toNat := by
  revert k
  decide

theorem mapRead_bufAddr (s : State) (k : BufIdx) :
    mapRead s (0x40#7 ||| k.setWidth 7) = zext32 (s.bufGet k) := by
  simp only [mapRead, BitVec.toNat_eq, toNat_bufAddr, BitVec.toNat_ofNat, Nat.reducePow, Nat.reduceMod]
  simp (disch := omega) only [if_neg, if_pos, Nat.add_sub_cancel_left, BitVec.ofNat_toNat,
    BitVec.setWidth_eq]

theorem mapWrite_bufAddr (s : State) (k : BufIdx) (d : Word) :
    mapWrite s (0x40#7 ||| k.setWidth 7) d = s.bufPut k (dataByte d) := by
  simp only [mapWrite, BitVec.toNat_eq, toNat_bufAddr, BitVec.toNat_ofNat, Nat.reducePow,
    Nat.reduceMod]
  simp (disch := omega) only [if_neg, if_pos, Nat.add_sub_cancel_left, BitVec.ofNat_toNat,
    BitVec.setWidth_eq]

theorem bufAddr_ne_cmd (k : BufIdx) : 0x40#7 ||| k.setWidth 7 ≠ 0x00#7 := by
  rw [BitVec.toNat_ne, toNat_bufAddr, BitVec.toNat_ofNat]
  omega

theorem step_write_bufAddr {s : State} {k : BufIdx} {hi : BitVec 24} {v : Byte} {rest : List Txn}
    (hpending : s.pending = txn true (0x40#7 ||| k.setWidth 7) (hi ++ v) :: rest) :
    ∃ t : State, step s = .next t ∧ t.pending = rest ∧ t.bufGet k = v := by
  have hstep := writesFollowRegisterMap s _ _ _ (bufAddr_ne_cmd k) hpending
  rw [mapWrite_bufAddr, dataByte_append] at hstep
  exact ⟨_, hstep, State.bufPut_pending _ k v, State.bufGet_bufPut_same _ k v⟩

theorem step_read_bufAddr {s : State} {k : BufIdx} {d : Word} {rest : List Txn}
    (hpending : s.pending = txn false (0x40#7 ||| k.setWidth 7) d :: rest) :
    ∃ t : State, step s = .next t ∧ t.pending = rest ∧ t.bufGet k = s.bufGet k ∧
      t.responses.getLast? = some (zext32 (s.bufGet k)) := by
  have hstep := readsFollowRegisterMap s _ d rest hpending
  rw [mapRead_bufAddr] at hstep
  exact ⟨_, hstep, rfl, rfl, List.getLast?_concat⟩

/-- Settles O21: the write step stores the byte, the words in between keep it, and the read step answers
it. -/
theorem bufferReadAfterWrite : Obligations.BufferReadAfterWrite := by
  intro s k hi v d ts rest hpending hmay
  obtain ⟨stored, hwrite, hstoredPending, hstored⟩ := step_write_bufAddr hpending
  obtain ⟨kept, hbetween, hkeptPending, hkept⟩ :=
    run_words_keeps (P := fun t => t.bufGet k = v) hstoredPending (fun _ _ h => h)
      (fun w hw _ _ h hnext => (exec_keeps_bufGet (hmay w hw) hnext).trans h) hstored
  obtain ⟨u, hread, hupending, hu, hlast⟩ := step_read_bufAddr hkeptPending
  refine ⟨u, ?_, hupending, hu.trans hkept, hkept ▸ hlast⟩
  calc Host.Core.run Sys2Proof.core (ts.length + 2) s
      = Host.Core.run Sys2Proof.core (ts.length + 1) stored := run_succ_next _ hwrite
    _ = Host.Core.run Sys2Proof.core 1 kept := by rw [Nat.add_comm]; exact hbetween 1
    _ = .next u := run_succ_next 0 hread

/-! ## The checksum's bytes (R43) -/

/-- A byte of a word, put back at its place, is the word's bits of that place. -/
theorem byteInPlace_getLsbD (c : Word) (k n : Nat) (hn : n < 32) :
    (zext32 (c.extractLsb' k 8) <<< k).getLsbD n = (decide (k ≤ n ∧ n < k + 8) && c.getLsbD n) := by
  by_cases hlo : k ≤ n
  · have hsub : k + (n - k) = n := by omega
    have hbyte : n - k < 8 ↔ n < k + 8 := by omega
    simp [zext32, hn, hlo, hsub, hbyte]
  · simp [hlo, Nat.lt_of_not_le hlo]

/-- Every bit lies in one of the four places, so the four bytes in place are the word. -/
theorem fromLe32_bytes (c : Word) :
    fromLe32 (c.extractLsb' 0 8) (c.extractLsb' 8 8) (c.extractLsb' 16 8) (c.extractLsb' 24 8) = c := by
  have hplace0 : zext32 (c.extractLsb' 0 8) = zext32 (c.extractLsb' 0 8) <<< 0 :=
    (BitVec.shiftLeft_zero _).symm
  apply BitVec.eq_of_getLsbD_eq
  intro n hn
  rw [fromLe32, hplace0]
  simp only [BitVec.getLsbD_or, byteInPlace_getLsbD c _ n hn, ← Bool.and_or_distrib_right,
    ← Bool.decide_or]
  have hsome : ((((0 ≤ n ∧ n < 0 + 8) ∨ 8 ≤ n ∧ n < 8 + 8) ∨ 16 ≤ n ∧ n < 16 + 8) ∨
      24 ≤ n ∧ n < 24 + 8) := by omega
  rw [decide_eq_true hsome, Bool.true_and]

/-- Settles O22: a word's first byte is its truncation, its last the truncation of its top. -/
theorem checksumBytesLittleEndian : Obligations.ChecksumBytesLittleEndian := by
  intro c
  refine ⟨le32_length c, fromLe32_bytes c, ?first, ?last⟩
  case first => exact (BitVec.setWidth_eq_extractLsb' (by decide)).symm
  case last => exact BitVec.setWidth_ushiftRight_eq_extractLsb.symm

end Sys2Proof.RegisterMap

/-! SUPPORT. The statements of 30_encoding.md on the decoder and the encoder. `Laws/Decode.lean` gives
the decoder as `readInstr` and `writeInstr`; here is what these two answer at each kind of address, and
the statements follow from that. -/

namespace Sys2Proof.Encoding

open Sys2Proof.Machine

/-! ## The register arrays (20_memory.md R41, 30_encoding.md R63 a) -/

theorem toNat_axisAddr (i : AxisIdx) : (axisAddr i).toNat = 0x10 + i.toNat := by
  revert i
  decide

theorem toNat_btnAddr (j : BtnIdx) : (btnAddr j).toNat = 0x20 + j.toNat := by
  revert j
  decide

theorem toNat_bufAddr (k : BufIdx) : (bufAddr k).toNat = 0x40 + k.toNat := by
  revert k
  decide

theorem axisIdx_axisAddr (i : AxisIdx) : axisIdx (axisAddr i) = i := by
  rw [RegisterMap.axisIdx_eq_offset (toNat_axisAddr i ▸ Nat.le_add_right _ _), toNat_axisAddr,
    Nat.add_sub_cancel_left, BitVec.ofNat_toNat, BitVec.setWidth_eq]

theorem btnIdx_btnAddr (j : BtnIdx) : btnIdx (btnAddr j) = j := by
  rw [RegisterMap.btnIdx_eq_offset (toNat_btnAddr j ▸ Nat.le_add_right _ _), toNat_btnAddr,
    Nat.add_sub_cancel_left, BitVec.ofNat_toNat, BitVec.setWidth_eq]

theorem bufIdx_bufAddr (k : BufIdx) : bufIdx (bufAddr k) = k := by
  rw [RegisterMap.bufIdx_eq_offset (toNat_bufAddr k ▸ Nat.le_add_right _ _), toNat_bufAddr,
    Nat.add_sub_cancel_left, BitVec.ofNat_toNat, BitVec.setWidth_eq]

/-! An address in an array's range is in no earlier row's. -/

theorem writeInstr_axisAddr (i : AxisIdx) (d : Word) :
    writeInstr (axisAddr i) d = .wrAxis i (dataByte d) := by
  simp only [writeInstr, RegisterMap.isAxisAddr_iff, RegisterMap.isBtnAddr_iff,
    RegisterMap.isBufAddr_iff, axisIdx_axisAddr]
  simp only [BitVec.toNat_eq, toNat_axisAddr, BitVec.toNat_ofNat, Nat.reducePow, Nat.reduceMod]
  simp (disch := omega) only [if_neg, if_pos]

theorem writeInstr_btnAddr (j : BtnIdx) (d : Word) :
    writeInstr (btnAddr j) d = .wrBtn j (dataByte d) := by
  simp only [writeInstr, RegisterMap.isAxisAddr_iff, RegisterMap.isBtnAddr_iff,
    RegisterMap.isBufAddr_iff, btnIdx_btnAddr]
  simp only [BitVec.toNat_eq, toNat_btnAddr, BitVec.toNat_ofNat, Nat.reducePow, Nat.reduceMod]
  simp (disch := omega) only [if_neg, if_pos]

theorem writeInstr_bufAddr (k : BufIdx) (d : Word) :
    writeInstr (bufAddr k) d = .wrBuf k (dataByte d) := by
  simp only [writeInstr, RegisterMap.isAxisAddr_iff, RegisterMap.isBtnAddr_iff,
    RegisterMap.isBufAddr_iff, bufIdx_bufAddr]
  simp only [BitVec.toNat_eq, toNat_bufAddr, BitVec.toNat_ofNat, Nat.reducePow, Nat.reduceMod]
  simp (disch := omega) only [if_neg, if_pos]

theorem readInstr_axisAddr (i : AxisIdx) : readInstr (axisAddr i) = .rdAxis i := by
  revert i
  decide

theorem readInstr_btnAddr (j : BtnIdx) : readInstr (btnAddr j) = .rdBtn j := by
  revert j
  decide

theorem readInstr_bufAddr (k : BufIdx) : readInstr (bufAddr k) = .rdBuf k := by
  revert k
  decide

/-! ## Reserved opcodes and addresses -/

theorem isReservedOpcode_iff (op : Byte) :
    isReservedOpcode op = true ↔ op ≠ 0x01#8 ∧ op ≠ 0x02#8 ∧ op ≠ 0x03#8 := by
  simp [isReservedOpcode, Config.opCrcInit, Config.opCfgEnc, Config.opCfgDec, and_assoc]

theorem isReservedWrite_iff (a : Addr) : isReservedWrite a = true ↔
    a = 0x01#7 ∨ a = 0x04#7 ∨ a = 0x06#7 ∨ (0x0B#7 ≤ a ∧ a ≤ 0x0F#7) ∨
      (0x18#7 ≤ a ∧ a ≤ 0x1F#7) ∨ (0x30#7 ≤ a ∧ a ≤ 0x3F#7) := by
  revert a
  decide

theorem isReservedRead_iff (a : Addr) : isReservedRead a = true ↔
    a = 0x00#7 ∨ a = 0x03#7 ∨ (0x0B#7 ≤ a ∧ a ≤ 0x0F#7) ∨ (0x18#7 ≤ a ∧ a ≤ 0x1F#7) ∨
      (0x30#7 ≤ a ∧ a ≤ 0x3F#7) := by
  revert a
  decide

theorem writeInstr_of_isReservedWrite {a : Addr} (d : Word) (h : isReservedWrite a = true) :
    writeInstr a d = .wrRsvd a :=
  RegisterMap.writeInstr_reserved d ((isReservedWrite_iff a).mp h)

theorem readInstr_of_isReservedRead {a : Addr} (h : isReservedRead a = true) :
    readInstr a = .rdRsvd a :=
  RegisterMap.readInstr_reserved ((isReservedRead_iff a).mp h)

/-- A write to `CMD` whose opcode is none of the three is the reserved command (30_encoding.md R66). -/
theorem writeInstr_cmd_of_isReservedOpcode {d : Word} (h : isReservedOpcode (dataByte d) = true) :
    writeInstr 0x00#7 d = .cmdRsvd (dataByte d) := by
  obtain ⟨hinit, henc, hdec⟩ := (isReservedOpcode_iff _).mp h
  rw [writeInstr, if_pos rfl, if_neg hinit, if_neg henc, if_neg hdec]

theorem writeInstr_crcInit {d : Word} (h : dataByte d = 0x01#8) : writeInstr 0x00#7 d = .crcInit := by
  rw [writeInstr, if_pos rfl, if_pos h]

theorem writeInstr_cfgEnc {d : Word} (h : dataByte d = 0x02#8) : writeInstr 0x00#7 d = .cfgEnc := by
  rw [writeInstr, if_pos rfl, h, if_neg (by decide), if_pos rfl]

theorem writeInstr_cfgDec {d : Word} (h : dataByte d = 0x03#8) : writeInstr 0x00#7 d = .cfgDec := by
  rw [writeInstr, if_pos rfl, h, if_neg (by decide), if_neg (by decide), if_pos rfl]

/-! ## Decoding undoes encoding -/

theorem decode_txnWrite (a : Addr) (v : Byte) : decode (txnWrite a v) = writeInstr a (zext32 v) :=
  decode_write a (zext32 v)

theorem decode_txnRead (a : Addr) : decode (txnRead a) = readInstr a :=
  decode_read a 0#32

/-- Settles O1: the word of an instruction is a write or a read at its row's address, where the decoder
finds its row, and the byte of a narrow write comes back from the data field. -/
theorem decodeOfEncodeIsIdentity : Obligations.DecodeOfEncodeIsIdentity := by
  intro i hwf
  cases i with
  | crcInit => exact (decode_txnWrite _ _).trans (writeInstr_crcInit rfl)
  | cfgEnc => exact (decode_txnWrite _ _).trans (writeInstr_cfgEnc rfl)
  | cfgDec => exact (decode_txnWrite _ _).trans (writeInstr_cfgDec rfl)
  | cmdRsvd op =>
    have hop : isReservedOpcode (dataByte (zext32 op)) = true := (dataByte_zext32 op).symm ▸ hwf
    rw [encode, decode_txnWrite, writeInstr_cmd_of_isReservedOpcode hop, dataByte_zext32]
  | wrAcc v => exact decode_write _ v
  | crcUpd v | wrTblidx v | wrBuflen v | wrRver v | wrNax v | wrNbt v =>
    exact (decode_txnWrite _ v).trans (congrArg _ (dataByte_zext32 v))
  | wrAxis i v => rw [encode, decode_txnWrite, writeInstr_axisAddr, dataByte_zext32]
  | wrBtn j v => rw [encode, decode_txnWrite, writeInstr_btnAddr, dataByte_zext32]
  | wrBuf k v => rw [encode, decode_txnWrite, writeInstr_bufAddr, dataByte_zext32]
  | rdResult | rdAcc | crcFin | rdTblidx | rdTbl | rdBuflen | rdRver | rdNax | rdNbt =>
    exact decode_txnRead _
  | rdAxis i => exact (decode_txnRead _).trans (readInstr_axisAddr i)
  | rdBtn j => exact (decode_txnRead _).trans (readInstr_btnAddr j)
  | rdBuf k => exact (decode_txnRead _).trans (readInstr_bufAddr k)
  | wrRsvd a => exact (decode_txnWrite _ _).trans (writeInstr_of_isReservedWrite _ hwf)
  | rdRsvd a => exact (decode_txnRead _).trans (readInstr_of_isReservedRead hwf)

/-! ## Every word decodes to a well-formed instruction -/

/-- A read's instruction depends on the address alone, and there are 128 addresses. -/
theorem readInstr_wellFormed (a : Addr) : (readInstr a).wellFormed = true := by
  revert a
  decide

theorem wellFormed_ite {c : Prop} [Decidable c] {i j : Instr} (hthen : c → i.wellFormed = true)
    (helse : ¬ c → j.wellFormed = true) : (if c then i else j).wellFormed = true := by
  split
  · exact hthen ‹_›
  · exact helse ‹_›

/-- A write address that reaches the last row is a hole or a read-only register (20_memory.md R46). -/
theorem isReservedWrite_of_last_row {a : Addr} (hCmd : a ≠ 0x00#7) (hAcc : a ≠ 0x02#7)
    (hData : a ≠ 0x03#7) (hTblIdx : a ≠ 0x05#7) (hBufLen : a ≠ 0x07#7) (hVersion : a ≠ 0x08#7)
    (hNax : a ≠ 0x09#7) (hNbt : a ≠ 0x0A#7) (hAxis : a &&& 0x78#7 ≠ 0x10#7)
    (hBtn : a &&& 0x70#7 ≠ 0x20#7) (hBuf : a &&& 0x40#7 ≠ 0x40#7) : isReservedWrite a = true := by
  rw [ne_eq, RegisterMap.isAxisAddr_iff] at hAxis
  rw [ne_eq, RegisterMap.isBtnAddr_iff] at hBtn
  rw [ne_eq, RegisterMap.isBufAddr_iff] at hBuf
  rw [isReservedWrite_iff]
  simp only [ne_eq, BitVec.toNat_eq, BitVec.le_def, BitVec.toNat_ofNat, Nat.reducePow,
    Nat.reduceMod] at *
  omega

/-- Of the write rows the reserved command and the last row carry a check. -/
theorem writeInstr_wellFormed (a : Addr) (d : Word) : (writeInstr a d).wellFormed = true := by
  refine wellFormed_ite (fun _ => ?command) fun hCmd => ?write
  case command =>
    refine wellFormed_ite (fun _ => rfl) fun hInit => ?_
    refine wellFormed_ite (fun _ => rfl) fun hEnc => ?_
    refine wellFormed_ite (fun _ => rfl) fun hDec => ?_
    exact (isReservedOpcode_iff _).mpr ⟨hInit, hEnc, hDec⟩
  case write =>
    refine wellFormed_ite (fun _ => rfl) fun hAcc => ?_
    refine wellFormed_ite (fun _ => rfl) fun hData => ?_
    refine wellFormed_ite (fun _ => rfl) fun hTblIdx => ?_
    refine wellFormed_ite (fun _ => rfl) fun hBufLen => ?_
    refine wellFormed_ite (fun _ => rfl) fun hVersion => ?_
    refine wellFormed_ite (fun _ => rfl) fun hNax => ?_
    refine wellFormed_ite (fun _ => rfl) fun hNbt => ?_
    refine wellFormed_ite (fun _ => rfl) fun hAxis => ?_
    refine wellFormed_ite (fun _ => rfl) fun hBtn => ?_
    refine wellFormed_ite (fun _ => rfl) fun hBuf => ?_
    exact isReservedWrite_of_last_row hCmd hAcc hData hTblIdx hBufLen hVersion hNax hNbt hAxis hBtn
      hBuf

/-- Settles O2: a word is a write or a read, and each half of the decoder yields well-formed
instructions only. -/
theorem decodeYieldsWellFormed : Obligations.DecodeYieldsWellFormed := by
  intro t
  rw [← txn_fields t]
  cases fieldW t with
  | true => rw [decode_write]; exact writeInstr_wellFormed _ _
  | false => rw [decode_read]; exact readInstr_wellFormed _

/-! ## The rows are total, and rows 5 to 26 are disjoint -/

/-- The last two rows test the direction bit alone, so one of them takes any word that comes to it. -/
theorem reserved_row_hits (t : Txn) : wrRsvdRow.hits t = true ∨ rdRsvdRow.hits t = true := by
  rw [← txn_fields t, hits_txn, hits_txn]
  cases fieldW t with
  | true => exact .inl (by simp [wrRsvdRow, fieldW, fieldA, fieldD])
  | false => exact .inr (by simp [rdRsvdRow, fieldW, fieldA, fieldD])

/-- Two rows whose patterns differ on a bit that both masks test. -/
def Clash (r r' : Row) : Prop := r.pat &&& r'.mask ≠ r'.pat &&& r.mask

theorem Clash.not_both_hit {r r' : Row} (h : Clash r r') (t : Txn) :
    ¬ (r.hits t = true ∧ r'.hits t = true) := by
  simp only [Row.hits, beq_iff_eq]
  rintro ⟨hr, hr'⟩
  apply h
  rw [← hr, ← hr', BitVec.and_assoc, BitVec.and_assoc, BitVec.and_comm r.mask]

theorem rows_clash : (writeRows ++ readRows).Pairwise Clash := by
  unfold Clash
  decide

/-- Settles O3: a word that reaches the last two rows matches one of them, and any two of rows 5 to 26
clash. -/
theorem opcodeRowsTotalAndDisjoint : Obligations.OpcodeRowsTotalAndDisjoint := by
  refine ⟨fun t => ?total, rows_clash.imp Clash.not_both_hit⟩
  obtain hwrite | hread := reserved_row_hits t
  · exact ⟨wrRsvdRow, by simp [rows], hwrite⟩
  · exact ⟨rdRsvdRow, by simp [rows], hread⟩

/-! ## Ignored bits, and the generic forms -/

/-- Settles O4: the decoder reads the address alone, and the assembler's reads carry a zero. -/
theorem readDataFieldIgnored : Obligations.ReadDataFieldIgnored :=
  ⟨fun a d d' => (decode_read a d).trans (decode_read a d').symm,
    fun r => fieldD_txn false (regAddr r) 0#32⟩

/-- Only the accumulator takes more of the data field than its low byte. -/
theorem writeInstr_congr {a : Addr} {d d' : Word} (ha : a ≠ 0x02#7) (h : dataByte d = dataByte d') :
    writeInstr a d = writeInstr a d' := by
  simp only [writeInstr, h, if_neg ha]

/-- Settles O5. -/
theorem narrowWriteHighBitsIgnored : Obligations.NarrowWriteHighBitsIgnored := by
  intro a hi hi' b ha
  have hbyte : dataByte (hi ++ b) = dataByte (hi' ++ b) := by rw [dataByte_append, dataByte_append]
  rw [decode_write, decode_write, writeInstr_congr ha hbyte]

/-- Settles O6: seventeen closed words, decoded by the rows. -/
theorem decodeKnownWords : Obligations.DecodeKnownWords := by
  unfold Obligations.DecodeKnownWords
  decide

/-- Settles O7: the word of a generic form is a write or a read at its register's address. -/
theorem genericFormsAreTheirMnemonics : Obligations.GenericFormsAreTheirMnemonics :=
  ⟨decode_write _ _, decode_write _ _, decode_write _ _,
    fun v => decode_write _ v, decode_read _ _,
    fun v => decode_write _ v, decode_read _ _,
    fun v => decode_write _ v, decode_read _ _, decode_read _ _, decode_read _ _,
    fun v => decode_write _ v, decode_read _ _,
    fun v => decode_write _ v, decode_read _ _,
    fun v => decode_write _ v, decode_read _ _,
    fun v => decode_write _ v, decode_read _ _,
    fun i v => (decode_write _ v).trans (writeInstr_axisAddr i v),
    fun i => (decode_read _ _).trans (readInstr_axisAddr i),
    fun j v => (decode_write _ v).trans (writeInstr_btnAddr j v),
    fun j => (decode_read _ _).trans (readInstr_btnAddr j),
    fun k v => (decode_write _ v).trans (writeInstr_bufAddr k v),
    fun k => (decode_read _ _).trans (readInstr_bufAddr k)⟩

/-! ## Reserved commands -/

/-- Settles O49: the opcode is the data field's low byte, whatever stands above it. -/
theorem reservedCommandIsIllegal : Obligations.ReservedCommandIsIllegal := by
  refine ⟨fun s hi op hinit henc hdec => ⟨?reserved, rfl⟩, fun hi => ⟨?_, ?_, ?_⟩⟩
  case reserved =>
    have hop := (isReservedOpcode_iff op).mpr ⟨hinit, henc, hdec⟩
    rw [← dataByte_append hi op] at hop
    rw [decode_write, writeInstr_cmd_of_isReservedOpcode hop, dataByte_append]
  · exact (decode_write _ _).trans (writeInstr_crcInit (dataByte_append hi _))
  · exact (decode_write _ _).trans (writeInstr_cfgEnc (dataByte_append hi _))
  · exact (decode_write _ _).trans (writeInstr_cfgDec (dataByte_append hi _))

end Sys2Proof.Encoding

/-! SUPPORT. The statements on the programs of pseudo-instructions (30_encoding.md R69). `effects` is what
a program's words leave, computed without the run; each pseudo-instruction's effect is then one equation
over states. -/

namespace Sys2Proof.Programs

open Sys2Proof.Machine

/-! ## The state a program leaves -/

/-- The state an instruction leaves. -/
def effect (i : Instr) (s : State) : State :=
  match exec i s with
  | .next t => t
  | _ => s

theorem effect_of_exec {i : Instr} {s t : State} (h : exec i s = .next t) : effect i s = t := by
  simp only [effect, h]

theorem exec_eq_effect (i : Instr) (s : State) : exec i s = .next (effect i s) := by
  obtain ⟨t, hnext, -, -⟩ := Scope.exec_goesOnKeepingRun i s
  rw [effect_of_exec hnext, hnext]

theorem effect_cfgEnc_of_wellShaped {s : State} (h : s.wellShaped = true) :
    effect .cfgEnc s = s.storeImage.setResult resOk :=
  effect_of_exec (if_pos h)

theorem effect_cfgEnc_of_not_wellShaped {s : State} (h : s.wellShaped = false) :
    effect .cfgEnc s = s.setResult CmdError.invalidRecordShape.code :=
  effect_of_exec (if_neg (ne_true_of_eq_false h))

theorem effect_cfgDec_of_none {s : State} (h : s.decodeError = none) :
    effect .cfgDec s = s.loadRecord.setResult resOk :=
  effect_of_exec (by simp only [exec, execCfgDec, h, succeed])

theorem effect_cfgDec_of_some {s : State} {e : CmdError} (h : s.decodeError = some e) :
    effect .cfgDec s = s.setResult e.code :=
  effect_of_exec (by simp only [exec, execCfgDec, h, raiseError])

/-- An instruction does not see the words still to come. -/
theorem effect_pending (i : Instr) (s : State) (rest : List Txn) :
    effect i { s with pending := rest } = { effect i s with pending := rest } := by
  cases i with
  | cfgEnc =>
    cases h : s.wellShaped with
    | true =>
      rw [effect_cfgEnc_of_wellShaped h]
      exact effect_cfgEnc_of_wellShaped (s := { s with pending := rest }) h
    | false =>
      rw [effect_cfgEnc_of_not_wellShaped h]
      exact effect_cfgEnc_of_not_wellShaped (s := { s with pending := rest }) h
  | cfgDec =>
    cases h : s.decodeError with
    | none =>
      rw [effect_cfgDec_of_none h]
      exact effect_cfgDec_of_none (s := { s with pending := rest }) h
    | some e =>
      rw [effect_cfgDec_of_some h]
      exact effect_cfgDec_of_some (s := { s with pending := rest }) h
  | _ => rfl

/-- The state a list of instructions leaves. -/
def effects (is : List Instr) (s : State) : State := is.foldl (fun t i => effect i t) s

@[simp] theorem effects_nil (s : State) : effects [] s = s := rfl

@[simp] theorem effects_cons (i : Instr) (is : List Instr) (s : State) :
    effects (i :: is) s = effects is (effect i s) := rfl

@[simp] theorem effects_append (is js : List Instr) (s : State) :
    effects (is ++ js) s = effects js (effects is s) := List.foldl_append

theorem effects_pending (is : List Instr) (s : State) (rest : List Txn) :
    effects is { s with pending := rest } = { effects is s with pending := rest } := by
  induction is generalizing s with
  | nil => rfl
  | cons i is ih => rw [effects_cons, effect_pending, ih, effects_cons]

/-- A run over the words of well-formed instructions takes them and leaves their effects. -/
theorem run_program {is : List Instr} {s : State} {rest : List Txn}
    (hpending : s.pending = is.map encode ++ rest) (hwf : ∀ i ∈ is, i.wellFormed = true) :
    Host.Core.run Sys2Proof.core is.length s = .next { effects is s with pending := rest } := by
  induction is generalizing s with
  | nil =>
    subst hpending
    rfl
  | cons i is ih =>
    have hstep : step s = .next { effect i s with pending := is.map encode ++ rest } := by
      rw [Scope.step_of_pending_cons hpending, Encoding.decodeOfEncodeIsIdentity i (hwf i (by simp)),
        exec_eq_effect, effect_pending]
      rfl
    rw [List.length_cons, run_succ_next _ hstep, ih rfl (fun j hj => hwf j (by simp [hj])),
      effects_pending, effects_cons]

/-! ## Runs of reads and runs of writes -/

/-- The state after further responses. -/
def answered (s : State) (vs : List Word) : State := { s with responses := s.responses ++ vs }

@[simp] theorem answered_nil (s : State) : answered s [] = s := by simp [answered]

@[simp] theorem answered_answered (s : State) (vs ws : List Word) :
    answered (answered s vs) ws = answered s (vs ++ ws) := by simp [answered]

@[simp] theorem answered_recNax (s : State) (vs : List Word) :
    (answered s vs).recNax = s.recNax := rfl
@[simp] theorem answered_recNbt (s : State) (vs : List Word) :
    (answered s vs).recNbt = s.recNbt := rfl
@[simp] theorem answered_axis (s : State) (vs : List Word) :
    (answered s vs).axis = s.axis := rfl
@[simp] theorem answered_btn (s : State) (vs : List Word) :
    (answered s vs).btn = s.btn := rfl
@[simp] theorem answered_bufBytes (s : State) (vs : List Word) (k n : Nat) :
    (answered s vs).bufBytes k n = s.bufBytes k n := rfl

theorem effect_rdRver (s : State) : effect .rdRver s = answered s [zext32 s.recVersion] := rfl
theorem effect_rdNax (s : State) : effect .rdNax s = answered s [zext32 s.recNax] := rfl
theorem effect_rdNbt (s : State) : effect .rdNbt s = answered s [zext32 s.recNbt] := rfl
theorem effect_rdBuflen (s : State) : effect .rdBuflen s = answered s [zext32 s.bufLen] := rfl

/-- Reads answer the values they name, if a response changes none of these values. -/
theorem effects_reads {α : Type} {read : α → Instr} {value : State → α → Word}
    (hread : ∀ s x, effect (read x) s = answered s [value s x])
    (hvalue : ∀ s vs x, value (answered s vs) x = value s x) (xs : List α) (s : State) :
    effects (xs.map read) s = answered s (xs.map (value s)) := by
  induction xs generalizing s with
  | nil => exact (answered_nil s).symm
  | cons x xs ih =>
    have hvalues : value (answered s [value s x]) = value s := funext (hvalue s _)
    rw [List.map_cons, effects_cons, hread, ih, hvalues, answered_answered]
    rfl

/-- Writes at consecutive indices from 0 are a run of stores, if each write is the store's first byte. -/
theorem effects_mapIdx {write : Nat → Byte → Instr} {store : State → Nat → List Byte → State}
    (hnil : ∀ s k, store s k [] = s)
    (hcons : ∀ s k b bs, store s k (b :: bs) = store (effect (write k b) s) (k + 1) bs)
    (bs : List Byte) (s : State) : effects (bs.mapIdx write) s = store s 0 bs := by
  have hfrom : ∀ k s, effects (bs.mapIdx fun i => write (k + i)) s = store s k bs := by
    induction bs with
    | nil => exact fun k s => (hnil s k).symm
    | cons b bs ih =>
      intro k s
      have hshift : (fun i => write (k + (i + 1))) = fun i => write (k + 1 + i) :=
        funext fun i => congrArg write (Nat.add_right_comm k i 1)
      rw [List.mapIdx_cons, effects_cons, hshift, ih, hcons]
      rfl
  simpa using hfrom 0 s

/-- A register file after a run of stores from index `k`, as `Memory.writeBytes` is for the buffer. -/
def storeRun {n : Nat} [NeZero n] (v : Vector Byte n) (k : Nat) : List Byte → Vector Byte n
  | [] => v
  | b :: bs => storeRun (v.set (k % n) b (Nat.mod_lt k (NeZero.pos n))) (k + 1) bs

theorem storeRun_getElem {n : Nat} [NeZero n] (v : Vector Byte n) (k : Nat) (bs : List Byte) (x : Nat)
    (hx : x < n) (hfits : k + bs.length ≤ n) :
    (storeRun v k bs)[x] = if k ≤ x ∧ x < k + bs.length then bs.getD (x - k) 0 else v[x] := by
  induction bs generalizing v k with
  | nil =>
    rw [if_neg (by simp)]
    rfl
  | cons b bs ih =>
    simp only [List.length_cons] at hfits ⊢
    rw [storeRun, ih _ _ (by omega), Vector.getElem_set]
    simp only [Nat.mod_eq_of_lt (show k < n by omega)]
    by_cases hhere : k = x
    · subst hhere
      rw [if_neg (by omega), if_pos rfl, if_pos (by omega), Nat.sub_self]
      rfl
    · by_cases hlater : k + 1 ≤ x ∧ x < k + 1 + bs.length
      · rw [if_pos hlater, if_pos (by omega), show x - k = (x - (k + 1)) + 1 by omega]
        rfl
      · rw [if_neg hlater, if_neg hhere, if_neg (by omega)]

/-- A run of stores as long as the file replaces it. -/
theorem storeRun_toList {n : Nat} [NeZero n] (v w : Vector Byte n) : storeRun v 0 w.toList = w := by
  apply Vector.ext
  intro x hx
  have hlen : w.toList.length = n := Vector.length_toList
  rw [storeRun_getElem v 0 _ x hx (by omega), if_pos (by omega)]
  simp [hx]

/-! ## What each pseudo-instruction leaves (30_encoding.md R69) -/

theorem mapIdx_wellFormed {write : Nat → Byte → Instr} (h : ∀ k b, (write k b).wellFormed = true)
    (bs : List Byte) : ∀ i ∈ bs.mapIdx write, i.wellFormed = true := by
  intro i hi
  obtain ⟨k, hk, rfl⟩ := List.mem_mapIdx.mp hi
  exact h k bs[k]

/-- No expansion holds a reserved instruction. -/
theorem expand_wellFormed (p : Pseudo) : ∀ i ∈ expand p, i.wellFormed = true := by
  cases p with
  | crcStream | recDump | bufDump | encode | decode =>
    simp [expand, Instr.wellFormed, or_imp, forall_and]
  | recLoad v axes btns =>
    simp only [expand, List.forall_mem_append]
    refine ⟨⟨⟨?version, ?axes⟩, ?buttons⟩, ?lengths⟩
    case version | lengths => simp [Instr.wellFormed]
    case axes | buttons => exact mapIdx_wellFormed (fun _ _ => rfl) _
  | bufLoad bs =>
    exact List.forall_mem_append.mpr
      ⟨mapIdx_wellFormed (fun _ _ => rfl) bs, by simp [Instr.wellFormed]⟩

theorem expand_three_wellFormed (p q r : Pseudo) :
    ∀ i ∈ expand p ++ expand q ++ expand r, i.wellFormed = true := by
  simp only [List.forall_mem_append]
  exact ⟨⟨expand_wellFormed p, expand_wellFormed q⟩, expand_wellFormed r⟩

theorem effects_crcUpds (bs : List Byte) (s : State) :
    effects (bs.map .crcUpd) s = { s with acc := bs.foldl crcStep s.acc } := by
  induction bs generalizing s with
  | nil => rfl
  | cons b bs ih => exact ih _

theorem effects_crcStream (bs : List Byte) (s : State) :
    effects (expand (.crcStream bs)) s
      = answered { s with acc := crcAcc bs, result := resOk } [crc32 bs] := by
  rw [expand, effects_append, effects_append, effects_crcUpds]
  rfl

theorem effects_wrAxes (axes : Vector Byte 8) (s : State) :
    effects (axes.toList.mapIdx fun i a => .wrAxis (BitVec.ofNat 3 i) a) s = { s with axis := axes } := by
  rw [effects_mapIdx (store := fun s k bs => { s with axis := storeRun s.axis k bs }) (fun _ _ => rfl)
    (fun _ _ _ _ => rfl), storeRun_toList]

theorem effects_wrBtns (btns : Vector Byte 16) (s : State) :
    effects (btns.toList.mapIdx fun j b => .wrBtn (BitVec.ofNat 4 j) b) s = { s with btn := btns } := by
  rw [effects_mapIdx (store := fun s k bs => { s with btn := storeRun s.btn k bs }) (fun _ _ => rfl)
    (fun _ _ _ _ => rfl), storeRun_toList]

theorem effects_wrBufs (bs : List Byte) (s : State) :
    effects (bs.mapIdx fun k b => .wrBuf (BitVec.ofNat 6 k) b) s
      = { s with buf := s.buf.writeBytes 0 bs } :=
  effects_mapIdx (store := fun s k bs => { s with buf := s.buf.writeBytes k bs }) (fun _ _ => rfl)
    (fun _ _ _ _ => rfl) bs s

/-- The state REC.LOAD leaves. -/
def recordLoaded (s : State) (v : Byte) (axes : Vector Byte 8) (btns : Vector Byte 16) : State :=
  { s with recVersion := v, axis := axes, btn := btns, recNax := 8#8, recNbt := 16#8 }

theorem effects_recLoad (v : Byte) (axes : Vector Byte 8) (btns : Vector Byte 16) (s : State) :
    effects (expand (.recLoad v axes btns)) s = recordLoaded s v axes btns := by
  simp only [expand, effects_append, effects_wrAxes, effects_wrBtns]
  rfl

/-- The state BUF.LOAD leaves. -/
def bufferLoaded (s : State) (bs : List Byte) : State :=
  { s with buf := s.buf.writeBytes 0 bs, bufLen := clampLen (BitVec.ofNat 8 bs.length) }

theorem effects_bufLoad (bs : List Byte) (s : State) :
    effects (expand (.bufLoad bs)) s = bufferLoaded s bs := by
  rw [expand, effects_append, effects_wrBufs]
  rfl

theorem effects_rdAxes (s : State) :
    effects ((List.range 8).map fun i => .rdAxis (BitVec.ofNat 3 i)) s
      = answered s (s.axis.toList.map zext32) := by
  rw [effects_reads (value := fun s i => zext32 (s.axisGet (BitVec.ofNat 3 i))) (fun _ _ => rfl)
    (fun _ _ _ => rfl)]
  congr 1
  apply List.ext_getElem (by simp)
  intro i hi _
  simp only [List.length_map, List.length_range] at hi
  simp [State.axisGet, Nat.mod_eq_of_lt hi]

theorem effects_rdBtns (s : State) :
    effects ((List.range 16).map fun j => .rdBtn (BitVec.ofNat 4 j)) s
      = answered s (s.btn.toList.map zext32) := by
  rw [effects_reads (value := fun s j => zext32 (s.btnGet (BitVec.ofNat 4 j))) (fun _ _ => rfl)
    (fun _ _ _ => rfl)]
  congr 1
  apply List.ext_getElem (by simp)
  intro j hj _
  simp only [List.length_map, List.length_range] at hj
  simp [State.btnGet, Nat.mod_eq_of_lt hj]

theorem effects_rdBufs (n : Nat) (s : State) :
    effects ((List.range n).map fun k => .rdBuf (BitVec.ofNat 6 k)) s
      = answered s ((s.bufBytes 0 n).map zext32) := by
  rw [effects_reads (value := fun s k => zext32 (s.bufGet (BitVec.ofNat 6 k))) (fun _ _ => rfl)
    (fun _ _ _ => rfl)]
  simp [State.bufBytes, Function.comp_def]

/-- What REC.DUMP answers. -/
def recordWords (s : State) : List Word :=
  [zext32 s.recVersion, zext32 s.recNax, zext32 s.recNbt]
    ++ (s.axis.toList ++ s.btn.toList).map zext32

theorem recordWords_answered (s : State) (vs : List Word) :
    recordWords (answered s vs) = recordWords s := rfl

theorem recordWords_setResult (s : State) (c : Byte) :
    recordWords (s.setResult c) = recordWords s := rfl

theorem effects_recDump (s : State) : effects (expand .recDump) s = answered s (recordWords s) := by
  simp only [expand, effects_append, effects_cons, effects_nil, effect_rdRver, effect_rdNax,
    effect_rdNbt, effects_rdAxes, effects_rdBtns, answered_answered, answered_recNax,
    answered_recNbt, answered_axis, answered_btn]
  simp [recordWords]

theorem effects_bufDump (n : Nat) (s : State) :
    effects (expand (.bufDump n)) s
      = answered s (zext32 s.bufLen :: (s.bufBytes 0 n).map zext32) := by
  rw [expand, effects_append, effects_cons, effects_nil, effect_rdBuflen, effects_rdBufs,
    answered_answered]
  rfl

/-- The code ENCODE answers is the one CFG.ENC has just left. -/
theorem effects_encode (s : State) :
    effects (expand .encode) s = answered (effect .cfgEnc s) [zext32 (effect .cfgEnc s).result] := rfl

/-- The code DECODE answers is the one CFG.DEC has just left. -/
theorem effects_decode (s : State) :
    effects (expand .decode) s = answered (effect .cfgDec s) [zext32 (effect .cfgDec s).result] := rfl

/-! ## The buffer's bytes and the pure codec -/

theorem bufBytes_of_writeBytes {s : State} {m : Memory} {bs : List Byte}
    (hbuf : s.buf = m.writeBytes 0 bs) (hlen : bs.length ≤ 64) : s.bufBytes 0 bs.length = bs := by
  apply List.ext_getElem?
  intro x
  by_cases hx : x < bs.length
  · have hread := Memory.readByte_writeBytes m 0 bs (BitVec.ofNat 6 x) (by omega)
    have hmod : x % 2 ^ 6 = x := Nat.mod_eq_of_lt (by omega)
    simp only [BitVec.toNat_ofNat, hmod] at hread
    rw [State.bufBytes_getElem? _ _ _ _ hx, State.bufGet, hbuf, Nat.zero_add, hread]
    simp [hx]
  · simp [State.bufBytes, hx]

/-- A byte read back from the byte sequence of the buffer. -/
theorem bufBytes_getD (s : State) {n x : Nat} (h : x < n) :
    (s.bufBytes 0 n).getD x 0 = s.bufGet (BitVec.ofNat 6 x) := by
  rw [List.getD_eq_getElem?_getD, State.bufBytes_getElem? _ _ _ _ h, Nat.zero_add]
  rfl

theorem bufBytes_drop_take (s : State) {n k m : Nat} (h : k + m ≤ n) :
    ((s.bufBytes 0 n).drop k).take m = s.bufBytes k m := by
  apply List.ext_getElem
  · simp; omega
  · intro x hx hx'
    simp [State.bufBytes]

theorem loadRecord_record (s : State) :
    s.loadRecord.record
      = ⟨s.bufGet 1#6, (s.bufBytes 3 8).map s8, (s.bufBytes 11 16).map s8⟩ := by
  simp only [State.record, State.loadRecord_axis, State.loadRecord_btn, Vector.toList_ofFn,
    State.bufBytes, List.ofFn_eq_map, ← List.map_coe_finRange_eq_range, List.map_map]
  rfl

/-- `encode` of the record that the registers denote is the image of their raw bytes
(41_config_codec.md R106, R108). -/
theorem encodeRecord_record (s : State) (v : Byte) :
    encodeRecord ⟨v, s.axis.toList.map s8, s.btn.toList.map s8⟩ = .ok (withChecksum s.payload) := by
  have hbytes : ∀ bs : List Byte, (bs.map s8).map u8 = bs := by
    intro bs
    simp [Scope.u8_s8, Function.comp_def]
  simp only [encodeRecord, hbytes, List.length_map, Vector.length_toList]
  rfl

/-- The checksum test of CFG.DEC is that of `decode` over the buffer's bytes. -/
theorem checksumBad_iff {s : State} {bs : List Byte} (hbs : s.bufBytes 0 s.bufLen.toNat = bs) :
    s.checksumBad = true ↔ s.decVerifyCrc = true ∧ 31 ≤ bs.length ∧
      fromLe32 (bs.getD 27 0) (bs.getD 28 0) (bs.getD 29 0) (bs.getD 30 0)
        ≠ crc32 ((bs.drop 1).take 26) := by
  subst hbs
  simp only [State.checksumBad, Bool.and_eq_true, decide_eq_true_eq, bne_iff_ne, and_assoc,
    State.bufBytes_length]
  refine and_congr_right fun _ => and_congr_right fun hwire => ?_
  have hlen : 31 ≤ s.bufLen.toNat := hwire
  rw [bufBytes_getD s (by omega), bufBytes_getD s (by omega), bufBytes_getD s (by omega),
    bufBytes_getD s (by omega), bufBytes_drop_take s (by omega)]
  rfl

/-- CFG.DEC's chain of tests with the numbers of 41_config_codec.md R111. -/
theorem decodeError_eq (s : State) : s.decodeError =
    if s.bufLen.toNat < 2 then some .shortBuffer
    else if s.bufGet 1#6 ≠ 0x01#8 then some .unsupportedVersion
    else if s.bufLen.toNat < 27 then some .shortBuffer
    else if s.checksumBad then some .checksumMismatch
    else none := rfl

/-- `decode` of the buffer's bytes fails where CFG.DEC fails, with the same error, and is the record
CFG.DEC loads elsewhere (41_config_codec.md R109, R111). -/
theorem decodeRecord_bufBytes {s : State} {bs : List Byte} (hbs : s.bufBytes 0 s.bufLen.toNat = bs) :
    decodeRecord s.decVerifyCrc bs = s.decodeError.elim (.ok s.loadRecord.record) .error := by
  have hlen : bs.length = s.bufLen.toNat := hbs ▸ State.bufBytes_length s 0 _
  have hbad := checksumBad_iff hbs
  rw [hlen] at hbad
  rw [decodeRecord, decodeError_eq, hlen]
  by_cases h2 : s.bufLen.toNat < 2
  · rw [if_pos h2, if_pos h2]
    rfl
  have hversion : bs.getD 1 0 = s.bufGet 1#6 := hbs ▸ bufBytes_getD s (by omega)
  rw [if_neg h2, if_neg h2, hversion]
  by_cases h1 : s.bufGet 1#6 ≠ 0x01#8
  · rw [if_pos h1, if_pos h1]
    rfl
  rw [if_neg h1, if_neg h1]
  by_cases h27 : s.bufLen.toNat < 27
  · rw [if_pos h27, if_pos h27]
    rfl
  rw [if_neg h27, if_neg h27]
  by_cases hc : s.checksumBad = true
  · rw [if_pos hc, if_pos (hbad.mp hc)]
    rfl
  · have haxes : (bs.drop 3).take 8 = s.bufBytes 3 8 := hbs ▸ bufBytes_drop_take s (by omega)
    have hbtns : (bs.drop 11).take 16 = s.bufBytes 11 16 := hbs ▸ bufBytes_drop_take s (by omega)
    rw [if_neg hc, if_neg (mt hbad.mpr hc), haxes, hbtns, Option.elim_none, loadRecord_record]

/-- CFG.DEC succeeds on the supported version only (60_exceptions.md R163). -/
theorem bufGet_version_of_decodeError_none {s : State} (h : s.decodeError = none) :
    s.bufGet 1#6 = 0x01#8 := by
  by_contra hversion
  rw [decodeError_eq, if_pos hversion] at h
  split_ifs at h

/-! ## The programs -/

/-- Settles O52: CRC.INIT sets the accumulator, the bytes are folded into it and CRC.FIN answers it. -/
theorem crcStreamIsChecksum : Obligations.CrcStreamIsChecksum := by
  intro s bs rest hpending
  have hrun := run_program hpending (expand_wellFormed _)
  have hlength : (expand (.crcStream bs)).length = bs.length + 2 := by simp [expand]
  rw [hlength, effects_crcStream] at hrun
  exact ⟨_, hrun, rfl, rfl, rfl⟩

theorem storeImage_bufBytes (s : State) :
    s.storeImage.bufBytes 0 30 = withChecksum s.payload := by
  have hlen : (withChecksum s.payload).length = 30 := by simp
  rw [← hlen]
  exact bufBytes_of_writeBytes (State.storeImage_buf s) (by omega)

/-- On a well-shaped record ENCODE and BUF.DUMP 30 answer RES_OK, the length and the image. -/
theorem effects_encode_bufDump {s : State} (h : s.wellShaped = true) :
    effects (expand .encode ++ expand (.bufDump 30)) s
      = answered (s.storeImage.setResult resOk)
          ([0x00#32, 30#32] ++ (withChecksum s.payload).map zext32) := by
  have hbytes : (s.storeImage.setResult resOk).bufBytes 0 30 = withChecksum s.payload :=
    storeImage_bufBytes s
  rw [effects_append, effects_encode, effect_cfgEnc_of_wellShaped h, effects_bufDump,
    answered_answered, answered_bufBytes, hbytes]
  rfl

/-- Settles O53: REC.LOAD leaves a well-shaped record, whose `encode` is the image CFG.ENC stores. -/
theorem encodeProgramIsEncode : Obligations.EncodeProgramIsEncode := by
  intro s v axes btns rest hpending
  have hlength : (expand (.recLoad v axes btns) ++ expand .encode ++ expand (.bufDump 30)).length
      = 60 := by simp [expand]
  have hrun := run_program hpending (expand_three_wellFormed _ _ _)
  rw [hlength, List.append_assoc, effects_append, effects_recLoad, effects_encode_bufDump rfl] at hrun
  exact ⟨_, _, hrun, rfl, encodeRecord_record (recordLoaded s v axes btns) v, rfl⟩

theorem bufferLoaded_bufBytes (s : State) {bs : List Byte} (hlen : bs.length ≤ 64) :
    (bufferLoaded s bs).bufBytes 0 (bufferLoaded s bs).bufLen.toNat = bs := by
  have hbufLen : (bufferLoaded s bs).bufLen.toNat = bs.length := by
    rw [bufferLoaded, toNat_clampLen, BitVec.toNat_ofNat, Nat.mod_eq_of_lt (by omega)]
    exact Nat.min_eq_left hlen
  rw [hbufLen]
  exact bufBytes_of_writeBytes rfl hlen

/-- Where CFG.DEC succeeds, DECODE and REC.DUMP answer RES_OK and the record it loads. -/
theorem effects_decode_recDump_of_none {s : State} (h : s.decodeError = none) :
    effects (expand .decode ++ expand .recDump) s
      = answered (s.loadRecord.setResult resOk) ([0x00#32, 0x01#32, 8#32, 16#32] ++
          (s.loadRecord.record.axes ++ s.loadRecord.record.buttons).map
            fun n => (u8 n).setWidth 32) := by
  have hbytes : ∀ bs : List Byte, (bs.map s8).map (fun n => (u8 n).setWidth 32) = bs.map zext32 := by
    intro bs
    rw [List.map_map]
    exact List.map_congr_left fun b _ => congrArg zext32 (Scope.u8_s8 b)
  have hversion : s.loadRecord.recVersion = 0x01#8 := bufGet_version_of_decodeError_none h
  rw [effects_append, effects_decode, effect_cfgDec_of_none h, effects_recDump, answered_answered,
    recordWords_answered, recordWords_setResult, recordWords, hversion]
  simp only [State.record, ← List.map_append, hbytes]
  rfl

/-- Where CFG.DEC fails, DECODE and REC.DUMP answer the error's code and the record from before. -/
theorem effects_decode_recDump_of_some {s : State} {e : CmdError} (h : s.decodeError = some e) :
    effects (expand .decode ++ expand .recDump) s
      = answered (s.setResult e.code) (zext32 e.code :: recordWords s) := by
  rw [effects_append, effects_decode, effect_cfgDec_of_some h, effects_recDump, answered_answered,
    recordWords_answered, recordWords_setResult]
  rfl

/-- Settles O54: after BUF.LOAD the buffer's bytes are the program's, so CFG.DEC ends as `decode` of them
does; REC.DUMP then answers the record it loaded or, after an error, the one from before. -/
theorem decodeProgramIsDecode : Obligations.DecodeProgramIsDecode := by
  intro s bs rest hlen hpending
  have hlength : (expand (.bufLoad bs) ++ expand .decode ++ expand .recDump).length
      = bs.length + 30 := by simp [expand]
  have hrun := run_program hpending (expand_three_wellFormed _ _ _)
  rw [hlength, List.append_assoc, effects_append, effects_bufLoad] at hrun
  have hdecode := decodeRecord_bufBytes (bufferLoaded_bufBytes s hlen)
  cases herror : (bufferLoaded s bs).decodeError with
  | none =>
    have hok : decodeRecord s.decVerifyCrc bs = .ok (bufferLoaded s bs).loadRecord.record := by
      rwa [herror] at hdecode
    rw [effects_decode_recDump_of_none herror] at hrun
    rw [hok]
    exact ⟨_, hrun, rfl, rfl⟩
  | some e =>
    have hfails : decodeRecord s.decVerifyCrc bs = .error e := by
      rwa [herror] at hdecode
    rw [effects_decode_recDump_of_some herror] at hrun
    rw [hfails]
    exact ⟨_, hrun, rfl, rfl, rfl, rfl, rfl⟩

end Sys2Proof.Programs

/-! SUPPORT. The statements of 40_crc_engine.md. The printed table is linear because the function `g` is
(R80, R81); a checksum step can be undone because no two entries of the table share their high byte; a
stream's accumulator is the fold of the bytes absorbed (R93). -/

namespace Sys2Proof.CrcEngine

open Sys2Proof.Machine

/-! ## The table (R80, R81) -/

/-- The 256 printed words are the formula's, in order. -/
theorem table_eq_map_formula :
    table = (List.range 256).map fun n => tableFormula (BitVec.ofNat 8 n) := by
  decide +kernel

/-- Settles O23. -/
theorem tableMatchesFormula : Obligations.TableMatchesFormula := by
  intro i
  have hlt : i.toNat < 256 := i.isLt
  simp [tableEntry, table_eq_map_formula, hlt]

/-- The polynomial enters where the low bit is set; where both words' bits are, it cancels. -/
theorem tableG_xor (x y : Word) : tableG (x ^^^ y) = tableG x ^^^ tableG y := by
  have hshift : (x ^^^ y) >>> 1 = x >>> 1 ^^^ y >>> 1 := BitVec.ushiftRight_xor_distrib x y 1
  have hlow : (x ^^^ y).getLsbD 0 = (x.getLsbD 0 ^^ y.getLsbD 0) := BitVec.getLsbD_xor
  rw [tableG, tableG, tableG, hshift, hlow]
  cases x.getLsbD 0 <;> cases y.getLsbD 0
  case false.false => rfl
  case false.true => exact BitVec.xor_assoc _ _ _
  case true.false =>
    change x >>> 1 ^^^ y >>> 1 ^^^ Config.polyReflected = x >>> 1 ^^^ Config.polyReflected ^^^ y >>> 1
    ac_rfl
  case true.true =>
    calc x >>> 1 ^^^ y >>> 1
        = x >>> 1 ^^^ y >>> 1 ^^^ (Config.polyReflected ^^^ Config.polyReflected) := by
          rw [BitVec.xor_self, BitVec.xor_zero]
      _ = x >>> 1 ^^^ Config.polyReflected ^^^ (y >>> 1 ^^^ Config.polyReflected) := by ac_rfl

theorem tableFormula_xor (i j : Byte) : tableFormula (i ^^^ j) = tableFormula i ^^^ tableFormula j := by
  have hwiden : zext32 (i ^^^ j) = zext32 i ^^^ zext32 j := BitVec.setWidth_xor
  simp only [tableFormula, hwiden, tableG_xor]

/-- Settles O24: the formula is linear, and it is the table. -/
theorem tableLinearOverXor : Obligations.TableLinearOverXor := by
  intro i j
  rw [tableMatchesFormula, tableMatchesFormula, tableMatchesFormula, tableFormula_xor]

/-- Only entry `0x00` has a zero high byte. -/
theorem eq_zero_of_tableFormula_high : ∀ i : Byte, tableFormula i >>> 24 = 0#32 → i = 0#8 := by
  decide +kernel

/-- An entry is known by its high byte. -/
theorem tableEntry_high_inj {i j : Byte} (h : tableEntry i >>> 24 = tableEntry j >>> 24) : i = j := by
  have hdiff : tableFormula (i ^^^ j) >>> 24 = 0#32 := by
    rw [← tableMatchesFormula, tableLinearOverXor, BitVec.ushiftRight_xor_distrib, h, BitVec.xor_self]
  exact BitVec.xor_eq_zero_iff.mp (eq_zero_of_tableFormula_high _ hdiff)

/-! ## One step of the checksum (R82) -/

theorem low_byte_mask (x : Word) : (x &&& 0xFF#32).setWidth 8 = dataByte x := by
  rw [(and_FF x (dataByte x)).mpr rfl, zext32, BitVec.setWidth_setWidth_of_le _ (by decide),
    BitVec.setWidth_eq]

theorem dataByte_xor (x y : Word) : dataByte (x ^^^ y) = dataByte x ^^^ dataByte y :=
  BitVec.extractLsb'_xor

/-- The step with its table index as R82 restates it. -/
theorem crcStep_eq (acc : Word) (b : Byte) :
    crcStep acc b = tableEntry (dataByte acc ^^^ b) ^^^ acc >>> 8 := by
  rw [crcStep, low_byte_mask, dataByte_xor, dataByte_zext32]

theorem word_eq_of_dataByte_of_shift {x y : Word} (hlow : dataByte x = dataByte y)
    (hhigh : x >>> 8 = y >>> 8) : x = y := by
  simp only [dataByte, BitVec.toNat_eq, BitVec.extractLsb'_toNat, BitVec.toNat_ushiftRight,
    Nat.shiftRight_eq_div_pow] at hlow hhigh ⊢
  omega

/-- The high byte of a step's result is that of the entry used, so the result tells which entry it was. -/
theorem crcStep_inj {acc acc' : Word} {b b' : Byte} (h : crcStep acc b = crcStep acc' b') :
    dataByte acc ^^^ b = dataByte acc' ^^^ b' ∧ acc >>> 8 = acc' >>> 8 := by
  have hshifted (x : Word) : x >>> 8 >>> 24 = 0#32 := by bv_omega
  rw [crcStep_eq, crcStep_eq] at h
  have hindex : dataByte acc ^^^ b = dataByte acc' ^^^ b' := by
    apply tableEntry_high_inj
    simpa only [BitVec.ushiftRight_xor_distrib, hshifted, BitVec.xor_zero] using
      congrArg (fun w : Word => w >>> 24) h
  rw [hindex] at h
  exact ⟨hindex, (BitVec.xor_right_inj _).mp h⟩

theorem crcStep_byte_inj {acc : Word} {b b' : Byte} (h : crcStep acc b = crcStep acc b') : b = b' :=
  (BitVec.xor_right_inj _).mp (crcStep_inj h).1

theorem crcStep_acc_inj {acc acc' : Word} {b : Byte} (h : crcStep acc b = crcStep acc' b) :
    acc = acc' := by
  obtain ⟨hindex, hhigh⟩ := crcStep_inj h
  exact word_eq_of_dataByte_of_shift ((BitVec.xor_left_inj _).mp hindex) hhigh

/-! ## The checksum (R83, R84) -/

theorem foldl_crcStep_inj {acc acc' : Word} (bs : List Byte)
    (h : bs.foldl crcStep acc = bs.foldl crcStep acc') : acc = acc' := by
  induction bs generalizing acc acc' with
  | nil => exact h
  | cons b bs ih => exact crcStep_acc_inj (ih h)

theorem crcAcc_append (xs ys : List Byte) : crcAcc (xs ++ ys) = ys.foldl crcStep (crcAcc xs) :=
  List.foldl_append

theorem crcAcc_eq_of_crc32_eq {xs ys : List Byte} (h : crc32 xs = crc32 ys) : crcAcc xs = crcAcc ys :=
  (BitVec.xor_left_inj _).mp h

/-- Settles O26: the steps after the changed byte can be undone, and so can the step that absorbed it. -/
theorem oneChangedByteChangesChecksum : Obligations.OneChangedByteChangesChecksum := by
  intro xs ys b b' hne hsame
  have hacc := crcAcc_eq_of_crc32_eq hsame
  rw [crcAcc_append, crcAcc_append] at hacc
  exact hne (crcStep_byte_inj (foldl_crcStep_inj ys hacc))

/-- Settles O25: (a) and the check value are closed checksums, (b) is the fold over an append, (c) is a
step from zero. -/
theorem crcConsequences : Obligations.CrcConsequences := by
  refine ⟨by decide, fun bs b => crcAcc_append bs [b], crcAcc_append, fun i => ?entry,
    fun _ _ => congrArg crc32, by decide +kernel⟩
  case entry =>
    have hzero : dataByte 0x00000000#32 = 0#8 := by decide
    rw [crcStep_eq, hzero, BitVec.zero_xor, BitVec.zero_ushiftRight, BitVec.xor_zero]

/-! ## The instructions (R85 to R92) -/

theorem decode_crcInit (hi : BitVec 24) : decode (txn true 0x00#7 (hi ++ 0x01#8)) = .crcInit :=
  (decode_write _ _).trans (Encoding.writeInstr_crcInit (dataByte_append hi _))

theorem decode_crcFin (d : Word) : decode (txn false 0x04#7 d) = .crcFin :=
  decode_read _ d

/-- Settles O27. -/
theorem crcInitStartsChecksum : Obligations.CrcInitStartsChecksum :=
  fun _ hi => ⟨decode_crcInit hi, rfl⟩

/-- Settles O28: the step is written with R82's index. -/
theorem crcUpdAbsorbsOneByte : Obligations.CrcUpdAbsorbsOneByte := by
  refine fun s hi b => ⟨(decode_write _ _).trans (congrArg _ (dataByte_append hi b)), ?_⟩
  rw [exec, execCrcUpd, crcStep_eq, dataByte]

/-- Settles O29. -/
theorem crcFinReturnsComplement : Obligations.CrcFinReturnsComplement :=
  fun s d => ⟨decode_crcFin d, RegisterMap.execCrcFin_eq_respond_not s⟩

/-- Settles O30: both words are at `CRC_ACC`. -/
theorem accumulatorReadAndLoad : Obligations.AccumulatorReadAndLoad :=
  fun _ d v => ⟨decode_read _ d, rfl, decode_write _ v, rfl⟩

/-- Settles O31: the three words are at `TBL_IDX` and `TBL_DATA`. -/
theorem tableWindow : Obligations.TableWindow :=
  fun _ d hi v => ⟨decode_read _ d, rfl,
    (decode_write _ _).trans (congrArg _ (dataByte_append hi v)), rfl, decode_read _ d, rfl⟩

/-! ## Streams (R93) -/

/-- An instruction that does not set `ACC` anew steps it by the byte it absorbs, if any. -/
theorem exec_acc_of_not_setsAcc {i : Instr} {s t : State} (hsets : setsAcc i = false)
    (hnext : exec i s = .next t) : t.acc = (absorbed i).toList.foldl crcStep s.acc := by
  cases i with
  | crcInit | wrAcc => simp [setsAcc] at hsets
  | crcUpd b =>
    cases hnext
    rfl
  | _ =>
    exact StateChange.onlyCrcInstructionsWriteAcc _ s t hnext (by simp) (by simp) (by simp)

/-- The bytes that a run of words absorbs, in order. -/
def absorbedBytes (ts : List Txn) : List Byte := ts.filterMap fun t => absorbed (decode t)

theorem absorbedBytes_cons (w : Txn) (ts : List Txn) :
    absorbedBytes (w :: ts) = (absorbed (decode w)).toList ++ absorbedBytes ts := by
  cases h : absorbed (decode w) <;> simp [absorbedBytes, h]

/-- A run over words that do not set `ACC` anew takes them and folds the bytes they absorb into it. -/
theorem run_words_absorb {ts more : List Txn} {s : State} (hpending : s.pending = ts ++ more)
    (hsets : ∀ w ∈ ts, setsAcc (decode w) = false) :
    ∃ u : State, (∀ n, Host.Core.run Sys2Proof.core (n + ts.length) s
      = Host.Core.run Sys2Proof.core n u) ∧ u.pending = more ∧
      u.acc = (absorbedBytes ts).foldl crcStep s.acc := by
  induction ts generalizing s with
  | nil => exact ⟨s, fun _ => rfl, hpending, rfl⟩
  | cons w ts ih =>
    have hstep := Scope.step_of_pending_cons hpending
    obtain ⟨t, hnext, -, htpending⟩ :=
      Scope.exec_goesOnKeepingRun (decode w) { s with pending := ts ++ more }
    have htacc := exec_acc_of_not_setsAcc (hsets w (by simp)) hnext
    obtain ⟨u, hrun, hupending, huacc⟩ := ih htpending fun w' hw' => hsets w' (by simp [hw'])
    refine ⟨u, fun n => (run_succ_next _ (hstep.trans hnext)).trans (hrun n), hupending, ?_⟩
    rw [huacc, htacc, absorbedBytes_cons, List.foldl_append]

theorem step_crcInit {s : State} {hi : BitVec 24} {rest : List Txn}
    (hpending : s.pending = txn true 0x00#7 (hi ++ 0x01#8) :: rest) :
    ∃ t : State, step s = .next t ∧ t.acc = Config.crcInit ∧ t.pending = rest := by
  rw [Scope.step_of_pending_cons hpending, decode_crcInit]
  exact ⟨_, rfl, rfl, rfl⟩

theorem step_crcFin {s : State} {d : Word} {rest : List Txn}
    (hpending : s.pending = txn false 0x04#7 d :: rest) :
    step s = .next { s with
      pending := rest, responses := s.responses ++ [s.acc ^^^ Config.crcXorOut] } := by
  rw [Scope.step_of_pending_cons hpending, decode_crcFin]
  rfl

/-- From the start value of `ACC`, words that do not set it anew and a CRC.FIN answer the checksum of the
bytes absorbed. -/
theorem run_words_crcFin {s : State} {ts rest : List Txn} {d : Word} (hacc : s.acc = Config.crcInit)
    (hpending : s.pending = ts ++ txn false 0x04#7 d :: rest)
    (hsets : ∀ w ∈ ts, setsAcc (decode w) = false) :
    ∃ u : State, Host.Core.run Sys2Proof.core (ts.length + 1) s = .next u ∧ u.pending = rest ∧
      u.acc = crcAcc (absorbedBytes ts) ∧
      u.responses.getLast? = some (crc32 (absorbedBytes ts)) := by
  obtain ⟨t, hrun, htpending, htacc⟩ := run_words_absorb hpending hsets
  have hsum : t.acc = crcAcc (absorbedBytes ts) := by rw [htacc, hacc, crcAcc]
  have hfin := (hrun 1).trans (run_succ_next 0 (step_crcFin htpending))
  rw [Nat.add_comm] at hfin
  refine ⟨_, hfin, rfl, hsum, ?_⟩
  rw [crc32, ← hsum]
  exact List.getLast?_concat

/-- Settles O32: CRC.INIT and reset both leave the start value in `ACC`. -/
theorem streamingComputesCrc32 : Obligations.StreamingComputesCrc32 := by
  refine ⟨fun s hi d ts rest hpending hsets => ?afterInit, fun v d ts rest hsets => ?afterReset⟩
  case afterInit =>
    obtain ⟨t, hinit, htacc, htpending⟩ := step_crcInit hpending
    obtain ⟨u, hrun, hu⟩ := run_words_crcFin htacc htpending hsets
    exact ⟨u, (run_succ_next _ hinit).trans hrun, hu⟩
  case afterReset => exact run_words_crcFin rfl rfl hsets

end Sys2Proof.CrcEngine

/-! SUPPORT. The statements of 41_config_codec.md. The image of R106 is taken apart by places in the buffer
(`image_parts`, `payload_parts`), which serves both what CFG.ENC leaves and what CFG.DEC finds; CFG.DEC's
tests all pass exactly where `decodeError_eq_none_iff` says. -/

namespace Sys2Proof.ConfigCodec

open Sys2Proof.Machine Sys2Proof.Programs

/-! ## Byte sequences of the buffer -/

theorem bufBytes_append (s : State) (b m n : Nat) :
    s.bufBytes b (m + n) = s.bufBytes b m ++ s.bufBytes (b + m) n := by
  simp [State.bufBytes, List.range_add, Nat.add_assoc]

/-- The byte at an index inside the sequence, between those before it and those after it. -/
theorem bufBytes_around (s : State) (b m n : Nat) : s.bufBytes b (m + (1 + n))
    = s.bufBytes b m ++ s.bufGet (BitVec.ofNat 6 (b + m)) :: s.bufBytes (b + m + 1) n := by
  rw [bufBytes_append, bufBytes_append]
  rfl

theorem bufGet_of_bufBytes_eq_toList {s : State} {b n x : Nat} {v : Vector Byte n}
    (h : s.bufBytes b n = v.toList) (hx : x < n) : s.bufGet (BitVec.ofNat 6 (b + x)) = v[x] := by
  rw [← Option.some_inj, ← State.bufBytes_getElem? s b n x hx, h]
  simp [hx]

/-- Equal byte sequences have equal bytes at every index they cover. -/
theorem bufGet_eq_of_bufBytes_eq {s s' : State} {b n : Nat} (h : s.bufBytes b n = s'.bufBytes b n)
    {k : BufIdx} (hlo : b ≤ k.toNat) (hhi : k.toNat < b + n) : s.bufGet k = s'.bufGet k := by
  have hget := congrArg (fun bs => bs[k.toNat - b]?) h
  simp only [State.bufBytes_getElem? _ b n _ (show k.toNat - b < n by omega), Nat.add_sub_cancel' hlo,
    BitVec.ofNat_toNat, BitVec.setWidth_eq, Option.some.injEq] at hget
  exact hget

/-- A write outside a byte sequence leaves the sequence. -/
theorem bufBytes_bufPut (s : State) {b n : Nat} {k : BufIdx} (v : Byte) (hin : b + n ≤ 64)
    (hk : k.toNat < b ∨ b + n ≤ k.toNat) : (s.bufPut k v).bufBytes b n = s.bufBytes b n := by
  refine State.bufBytes_congr fun x hx => State.bufGet_bufPut_other s v fun heq => ?_
  have hindex : (b + x) % 2 ^ 6 = k.toNat := by rw [← heq, BitVec.toNat_ofNat]
  omega

/-- The index `k + i` of an array laid out from `k` (41_config_codec.md R105). -/
theorem ofNat_add_setWidth (k : Nat) {w : Nat} (i : BitVec w) :
    BitVec.ofNat 6 k + i.setWidth 6 = BitVec.ofNat 6 (k + i.toNat) := by
  rw [BitVec.ofNat_add, BitVec.ofNat_toNat]

/-! ## The checksum's four bytes (R106) -/

theorem fromLe32_of_eq_le32 {b0 b1 b2 b3 : Byte} {c : Word} (h : [b0, b1, b2, b3] = le32 c) :
    fromLe32 b0 b1 b2 b3 = c := by
  simp only [le32, List.cons.injEq] at h
  obtain ⟨rfl, rfl, rfl, rfl, -⟩ := h
  exact RegisterMap.fromLe32_bytes c

/-- A byte put in place `p` of a word reads there, and leaves every other place zero. -/
theorem extractLsb'_byteInPlace (b : Byte) (p q : Nat) (hq : q < 4) :
    (zext32 b <<< (8 * p)).extractLsb' (8 * q) 8 = if p = q then b else 0#8 := by
  apply BitVec.eq_of_getLsbD_eq
  intro n hn
  have hword : 8 * q + n < 32 := by omega
  simp only [BitVec.getLsbD_extractLsb', BitVec.getLsbD_shiftLeft, zext32, BitVec.getLsbD_setWidth, hn,
    hword, decide_true, Bool.true_and]
  obtain hlt | rfl | hgt := Nat.lt_trichotomy p q
  · rw [if_neg hlt.ne, BitVec.getLsbD_of_ge b _ (by omega)]
    simp
  · have hbit : n < 32 := by omega
    simp [hbit]
  · have hbelow : 8 * q + n < 8 * p := by omega
    simp [hgt.ne', hbelow]

theorem le32_fromLe32 (b0 b1 b2 b3 : Byte) : le32 (fromLe32 b0 b1 b2 b3) = [b0, b1, b2, b3] := by
  have hplace (q : Nat) (hq : q < 4) : (fromLe32 b0 b1 b2 b3).extractLsb' (8 * q) 8
      = (if 0 = q then b0 else 0#8) ||| (if 1 = q then b1 else 0#8) ||| (if 2 = q then b2 else 0#8)
        ||| (if 3 = q then b3 else 0#8) := by
    simp only [← extractLsb'_byteInPlace _ _ q hq, ← BitVec.extractLsb'_or]
    rw [BitVec.shiftLeft_zero]
    rfl
  simpa [le32] using And.intro (hplace 0 (by decide)) <| And.intro (hplace 1 (by decide)) <|
    And.intro (hplace 2 (by decide)) (hplace 3 (by decide))

/-- The checksum word that the buffer holds (41_config_codec.md R107, R111). -/
def storedChecksum (s : State) : Word :=
  fromLe32 (s.bufGet 27#6) (s.bufGet 28#6) (s.bufGet 29#6) (s.bufGet 30#6)

theorem le32_storedChecksum (s : State) : le32 (storedChecksum s) = s.bufBytes 27 4 :=
  le32_fromLe32 _ _ _ _

theorem storedChecksum_of_bufBytes {s : State} {c : Word} (h : s.bufBytes 27 4 = le32 c) :
    storedChecksum s = c :=
  fromLe32_of_eq_le32 h

theorem storedChecksum_eq_iff {s s' : State} :
    storedChecksum s = storedChecksum s' ↔ s.bufBytes 27 4 = s'.bufBytes 27 4 := by
  constructor
  · intro h
    rw [← le32_storedChecksum, h, le32_storedChecksum]
  · intro h
    exact storedChecksum_of_bufBytes (h.trans (le32_storedChecksum s').symm)

/-! ## The parts of an image (R105, R106) -/

/-- The payload of raw axis and button bytes (41_config_codec.md R105). -/
def payloadOf (axes btns : List Byte) : List Byte :=
  [Config.supportedVersion, Config.cmdSetConfig] ++ axes ++ btns

theorem payload_eq (s : State) : s.payload = payloadOf s.axis.toList s.btn.toList := rfl

theorem payloadOf_length {as bs : List Byte} (has : as.length = 8) (hbs : bs.length = 16) :
    (payloadOf as bs).length = 26 := by
  simp [payloadOf, has, hbs]

theorem withChecksum_take {p : List Byte} (h : p.length = 26) : (withChecksum p).take 26 = p :=
  List.take_left' h

theorem withChecksum_drop {p : List Byte} (h : p.length = 26) :
    (withChecksum p).drop 26 = le32 (crc32 p) :=
  List.drop_left' h

theorem image_parts {s u : State} {b : Nat} (h : u.bufBytes b 30 = withChecksum s.payload) :
    u.bufBytes b 26 = s.payload ∧ u.bufBytes (b + 26) 4 = le32 (crc32 s.payload) :=
  List.append_inj ((bufBytes_append u b 26 4).symm.trans h) (by simp)

theorem payload_parts {s u : State} {b : Nat} (h : u.bufBytes b 26 = s.payload) :
    u.bufBytes b 2 = [0x01#8, 0x00#8] ∧ u.bufBytes (b + 2) 8 = s.axis.toList ∧
      u.bufBytes (b + 10) 16 = s.btn.toList := by
  obtain ⟨hfront, hbtns⟩ := List.append_inj ((bufBytes_append u b 10 16).symm.trans h) (by simp)
  obtain ⟨hhead, haxes⟩ := List.append_inj ((bufBytes_append u b 2 8).symm.trans hfront) (by simp)
  exact ⟨hhead, haxes, hbtns⟩

/-! ## The two commands (R110, R111) -/

theorem exec_cfgEnc_of_wellShaped {s : State} (h : s.wellShaped = true) :
    exec .cfgEnc s = .next (s.storeImage.setResult resOk) := by
  rw [exec_eq_effect, effect_cfgEnc_of_wellShaped h]

theorem exec_cfgEnc_of_not_wellShaped {s : State} (h : s.wellShaped = false) :
    exec .cfgEnc s = .next (s.setResult CmdError.invalidRecordShape.code) := by
  rw [exec_eq_effect, effect_cfgEnc_of_not_wellShaped h]

theorem exec_cfgDec_of_none {s : State} (h : s.decodeError = none) :
    exec .cfgDec s = .next (s.loadRecord.setResult resOk) := by
  rw [exec_eq_effect, effect_cfgDec_of_none h]

theorem exec_cfgDec_of_some {s : State} {e : CmdError} (h : s.decodeError = some e) :
    exec .cfgDec s = .next (s.setResult e.code) := by
  rw [exec_eq_effect, effect_cfgDec_of_some h]

/-- `RESULT` tells whether CFG.DEC's tests all passed. -/
theorem decodeError_of_result {s t : State} (hnext : exec .cfgDec s = .next t)
    (hresult : t.result = 0x00#8) : s.decodeError = none := by
  cases herror : s.decodeError with
  | none => rfl
  | some e =>
    cases (exec_cfgDec_of_some herror).symm.trans hnext
    exact absurd hresult e.code_ne_resOk

theorem checksumBad_iff (s : State) : s.checksumBad = true ↔
    s.decVerifyCrc = true ∧ 31 ≤ s.bufLen.toNat ∧ storedChecksum s ≠ crc32 (s.bufBytes 1 26) := by
  simp only [State.checksumBad, Bool.and_eq_true, decide_eq_true_eq, bne_iff_ne, and_assoc]
  rfl

theorem decodeError_eq_none_iff (s : State) : s.decodeError = none ↔
    27 ≤ s.bufLen.toNat ∧ s.bufGet 1#6 = 0x01#8 ∧ ¬ s.checksumBad = true := by
  rw [decodeError_eq]
  split_ifs with h2 h1 h27 hbad
  · exact iff_of_false nofun fun ⟨hlen, _, _⟩ => by omega
  · exact iff_of_false nofun fun ⟨_, hversion, _⟩ => h1 hversion
  · exact iff_of_false nofun fun ⟨hlen, _, _⟩ => h27.not_ge hlen
  · exact iff_of_false nofun fun ⟨_, _, hgood⟩ => hgood hbad
  · exact iff_of_true rfl ⟨not_lt.mp h27, not_not.mp h1, hbad⟩

theorem decodeError_of_checksumBad {s : State} (hlen : 27 ≤ s.bufLen.toNat)
    (hversion : s.bufGet 1#6 = 0x01#8) (hbad : s.checksumBad = true) :
    s.decodeError = some .checksumMismatch := by
  rw [decodeError_eq, if_neg (by omega), if_neg (not_not.mpr hversion), if_neg (by omega), if_pos hbad]

/-- Settles O34: the image's parts stand where R105 and R106 put them. -/
theorem cfgEncEffect : Obligations.CfgEncEffect := by
  intro s hi
  refine ⟨(decode_write _ _).trans (Encoding.writeInstr_cfgEnc (dataByte_append hi _)), ?shaped, ?other⟩
  case shaped =>
    intro hnax hnbt
    have hexec := exec_cfgEnc_of_wellShaped ((wellShaped_iff s).mpr ⟨hnax, hnbt⟩)
    obtain ⟨hpayload, hsum⟩ := image_parts (storeImage_bufBytes s)
    obtain ⟨hhead, haxes, hbtns⟩ := payload_parts hpayload
    obtain ⟨hversion, hcmd⟩ : s.storeImage.bufGet 0#6 = 0x01#8 ∧ s.storeImage.bufGet 1#6 = 0x00#8 := by
      simpa [State.bufBytes, List.range_succ] using hhead
    refine ⟨_, hexec, hversion, hcmd, fun i => ?axis, fun j => ?btn, ?sum, fun k hk => ?rest, rfl⟩
    case axis =>
      rw [ofNat_add_setWidth]
      exact bufGet_of_bufBytes_eq_toList haxes i.isLt
    case btn =>
      rw [ofNat_add_setWidth]
      exact bufGet_of_bufBytes_eq_toList hbtns j.isLt
    case sum => exact hsum.trans (congrArg (fun p => le32 (crc32 p)) hpayload.symm)
    case rest => exact (State.bufGet_storeImage s k).trans (if_neg (by omega))
  case other =>
    intro hshape
    refine exec_cfgEnc_of_not_wellShaped (Bool.eq_false_iff.mpr fun h => ?_)
    obtain ⟨hnax, hnbt⟩ := (wellShaped_iff s).mp h
    exact hshape.elim (absurd hnax) (absurd hnbt)

/-- Settles O35: the branches are those of `decodeError`. -/
theorem cfgDecEffect : Obligations.CfgDecEffect := by
  intro s hi
  refine ⟨(decode_write _ _).trans (Encoding.writeInstr_cfgDec (dataByte_append hi _)), ?_⟩
  have herror := decodeError_eq s
  simp only [checksumBad_iff, storedChecksum] at herror
  split_ifs at herror ⊢
  · exact exec_cfgDec_of_some herror
  · exact exec_cfgDec_of_some herror
  · exact exec_cfgDec_of_some herror
  · exact exec_cfgDec_of_some herror
  · refine ⟨_, exec_cfgDec_of_none herror, fun i => ?axis, fun j => ?btn, rfl⟩
    case axis =>
      rw [ofNat_add_setWidth]
      exact State.axisGet_loadRecord s i
    case btn =>
      rw [ofNat_add_setWidth]
      exact State.btnGet_loadRecord s j

/-! ## The pure functions (R108, R109, R112, R113) -/

theorem encodeRecord_of_shape {r : ConfigRecord} (haxes : r.axes.length = 8)
    (hbtns : r.buttons.length = 16) :
    encodeRecord r = .ok (withChecksum (payloadOf (r.axes.map u8) (r.buttons.map u8))) :=
  if_neg (by omega)

theorem encodeRecord_of_not_shape {r : ConfigRecord}
    (h : ¬ (r.axes.length = 8 ∧ r.buttons.length = 16)) :
    encodeRecord r = .error .invalidRecordShape :=
  if_pos (by omega)

/-- `decode` behind any byte, of a payload with no checksum or with its own (41_config_codec.md R113). -/
theorem decodeRecord_payloadOf (verify : Bool) (x : Byte) {as bs tail : List Byte}
    (has : as.length = 8) (hbs : bs.length = 16)
    (htail : tail = [] ∨ tail = le32 (crc32 (payloadOf as bs))) :
    decodeRecord verify (x :: (payloadOf as bs ++ tail)) = .ok ⟨0x01#8, as.map s8, bs.map s8⟩ := by
  have hpayload := payloadOf_length has hbs
  have hlen : (x :: (payloadOf as bs ++ tail)).length = 27 + tail.length := by
    rw [List.length_cons, List.length_append, hpayload]
    omega
  have hversion : (x :: (payloadOf as bs ++ tail)).getD 1 0 = 0x01#8 := rfl
  have hsummed : ((x :: (payloadOf as bs ++ tail)).drop 1).take 26 = payloadOf as bs :=
    List.take_left' hpayload
  have haxes : ((x :: (payloadOf as bs ++ tail)).drop 3).take 8 = as := by
    have hdrop : (x :: (payloadOf as bs ++ tail)).drop 3 = as ++ bs ++ tail := rfl
    rw [hdrop, List.append_assoc, List.take_left' has]
  have hbtns : ((x :: (payloadOf as bs ++ tail)).drop 11).take 16 = bs := by
    have hdrop : (x :: (payloadOf as bs ++ tail)).drop 11 = (as ++ bs ++ tail).drop 8 := rfl
    rw [hdrop, List.append_assoc, List.drop_left' has, List.take_left' hbs]
  have hstored (n : Nat) : (x :: (payloadOf as bs ++ tail)).getD (26 + n + 1) 0 = tail.getD n 0 := by
    rw [List.getD_cons_succ, List.getD_append_right _ _ _ _ (by omega), hpayload,
      Nat.add_sub_cancel_left]
  rw [decodeRecord, hlen, hversion, hsummed, haxes, hbtns, if_neg (by omega), if_neg (by simp),
    if_neg (by omega), if_neg]
  rintro ⟨-, hlong, hne⟩
  obtain rfl | rfl := htail
  case inl => simp at hlong
  case inr =>
    rw [hstored 0, hstored 1, hstored 2, hstored 3] at hne
    exact hne (RegisterMap.fromLe32_bytes _)

theorem map_s8_u8 {ns : List Int} (h : ∀ n ∈ ns, -128 ≤ n ∧ n ≤ 127) :
    ns.map (s8 ∘ u8) = ns := by
  have hcode : ∀ n ∈ ns, (s8 ∘ u8) n = id n := fun n hn => Scope.s8_u8 (h n hn).1 (h n hn).2
  rw [List.map_congr_left hcode, List.map_id]

/-- `decode` behind any byte, of the image without and with its checksum (41_config_codec.md R112). -/
theorem decodeRecord_image (verify : Bool) (x : Byte) {as bs : List Byte} (has : as.length = 8)
    (hbs : bs.length = 16) :
    decodeRecord verify (x :: (withChecksum (payloadOf as bs)).take 26)
        = .ok ⟨0x01#8, as.map s8, bs.map s8⟩ ∧
      decodeRecord verify (x :: withChecksum (payloadOf as bs))
        = .ok ⟨0x01#8, as.map s8, bs.map s8⟩ := by
  constructor
  · rw [withChecksum_take (payloadOf_length has hbs), ← List.append_nil (payloadOf as bs)]
    exact decodeRecord_payloadOf verify x has hbs (.inl rfl)
  · exact decodeRecord_payloadOf verify x has hbs (.inr rfl)

/-- Settles O36: the raw bytes come back, and `s8` after `u8` is the identity on the codes that fit. -/
theorem pureRoundTrip : Obligations.PureRoundTrip := by
  intro r haxes hbtns hversion
  have has : (r.axes.map u8).length = 8 := by simpa
  have hbs : (r.buttons.map u8).length = 16 := by simpa
  have hpayload := payloadOf_length has hbs
  have hraw (x : Byte) (verify : Bool) := decodeRecord_image verify x has hbs
  rw [List.map_map, List.map_map] at hraw
  refine ⟨_, encodeRecord_of_shape haxes hbtns, by simp [hpayload], ?sum, hraw, fun hfit => ?codes⟩
  case sum => rw [withChecksum_take hpayload, withChecksum_drop hpayload]
  case codes =>
    obtain ⟨haxesFit, hbtnsFit⟩ := List.forall_mem_append.mp hfit
    have hr : (⟨0x01#8, r.axes.map (s8 ∘ u8), r.buttons.map (s8 ∘ u8)⟩ : ConfigRecord) = r := by
      rw [map_s8_u8 haxesFit, map_s8_u8 hbtnsFit, ← hversion]
    rwa [hr] at hraw

/-! ## Encoding, then decoding, on the machine (R112) -/

/-- Settles O37: the image, one byte up, passes CFG.DEC's tests, and its parts are where CFG.DEC reads. -/
theorem encodeThenDecodeRestoresRecord : Obligations.EncodeThenDecodeRestoresRecord := by
  intro s hnax hnbt
  have hexec := exec_cfgEnc_of_wellShaped ((wellShaped_iff s).mpr ⟨hnax, hnbt⟩)
  refine ⟨_, hexec, rfl, fun u hmoved hlen => ?_⟩
  have himage : u.bufBytes 1 30 = withChecksum s.payload := by
    rw [← storeImage_bufBytes]
    refine List.map_congr_left fun k hk => ?_
    rw [Nat.add_comm, Nat.zero_add]
    exact hmoved k (List.mem_range.mp hk)
  obtain ⟨hpayload, hsum⟩ := image_parts himage
  obtain ⟨hhead, haxes, hbtns⟩ := payload_parts hpayload
  have hversion : u.bufGet 1#6 = 0x01#8 := (List.cons.inj hhead).1
  have hgood : ¬ u.checksumBad = true := by
    rw [checksumBad_iff, hpayload]
    exact fun ⟨_, _, hne⟩ => hne (storedChecksum_of_bufBytes hsum)
  have hnone := (decodeError_eq_none_iff u).mpr ⟨hlen, hversion, hgood⟩
  refine ⟨_, exec_cfgDec_of_none hnone, rfl, ?axis, ?btn, hversion, rfl, rfl⟩
  case axis => exact Vector.ext fun x hx => by simpa using bufGet_of_bufBytes_eq_toList haxes hx
  case btn => exact Vector.ext fun x hx => by simpa using bufGet_of_bufBytes_eq_toList hbtns hx

/-! ## The commands are the pure functions (R108 to R111) -/

theorem axis_of_holds {s : State} {r : ConfigRecord} (h : s.holds r) (hlen : r.axes.length = 8) :
    r.axes.map u8 = s.axis.toList := by
  obtain ⟨-, -, -, haxes, -⟩ := h
  refine List.ext_getElem (by simpa) fun x hx hx' => ?_
  have hlt : x < 8 := by simpa using hx'
  have hcode := haxes (BitVec.ofNat 3 x) (r.axes[x]) (by simp [Nat.mod_eq_of_lt hlt])
  simpa [State.axisGet, Nat.mod_eq_of_lt hlt] using hcode.symm

theorem btn_of_holds {s : State} {r : ConfigRecord} (h : s.holds r) (hlen : r.buttons.length = 16) :
    r.buttons.map u8 = s.btn.toList := by
  obtain ⟨-, -, -, -, hbtns⟩ := h
  refine List.ext_getElem (by simpa) fun x hx hx' => ?_
  have hlt : x < 16 := by simpa using hx'
  have hcode := hbtns (BitVec.ofNat 4 x) (r.buttons[x]) (by simp [Nat.mod_eq_of_lt hlt])
  simpa [State.btnGet, Nat.mod_eq_of_lt hlt] using hcode.symm

theorem wellShaped_iff_of_holds {s : State} {r : ConfigRecord} (h : s.holds r) :
    s.wellShaped = true ↔ r.axes.length = 8 ∧ r.buttons.length = 16 := by
  obtain ⟨-, hnax, hnbt, -, -⟩ := h
  simp [State.wellShaped, hnax, hnbt, Config.nAxes, Config.nButtons]

/-- Settles O38: the registers hold a well-shaped record's raw bytes, and a record of another shape has
another declared length. -/
theorem cfgEncIsEncode : Obligations.CfgEncIsEncode := by
  intro s r hholds
  have hshaped := wellShaped_iff_of_holds hholds
  by_cases hshape : r.axes.length = 8 ∧ r.buttons.length = 16
  · obtain ⟨haxes, hbtns⟩ := hshape
    rw [encodeRecord_of_shape haxes hbtns, axis_of_holds hholds haxes, btn_of_holds hholds hbtns]
    exact ⟨_, exec_cfgEnc_of_wellShaped (hshaped.mpr ⟨haxes, hbtns⟩), rfl, storeImage_bufBytes s,
      fun k hk => (State.bufGet_storeImage s k).trans (if_neg (by omega)), rfl⟩
  · rw [encodeRecord_of_not_shape hshape]
    exact exec_cfgEnc_of_not_wellShaped (Bool.eq_false_iff.mpr (mt hshaped.mp hshape))

/-- Settles O39: `decode` of the buffer's bytes fails as CFG.DEC's tests do. -/
theorem cfgDecIsDecode : Obligations.CfgDecIsDecode := by
  intro s _
  rw [decodeRecord_bufBytes rfl]
  cases herror : s.decodeError with
  | none => exact ⟨_, exec_cfgDec_of_none herror, rfl, rfl, rfl, rfl⟩
  | some e => exact exec_cfgDec_of_some herror

/-! ## What the commands depend on (R114) -/

/-- CFG.DEC's inputs (41_config_codec.md R114) decide its tests. -/
theorem decodeError_congr {s s' : State} (hlen : s.bufLen = s'.bufLen)
    (hverify : s.decVerifyCrc = s'.decVerifyCrc)
    (hbuf : ∀ x, x < 31 → s.bufGet (BitVec.ofNat 6 x) = s'.bufGet (BitVec.ofNat 6 x)) :
    s.decodeError = s'.decodeError := by
  have hsummed : s.bufBytes 1 26 = s'.bufBytes 1 26 :=
    State.bufBytes_congr fun x hx => hbuf (1 + x) (by omega)
  have hstored : storedChecksum s = storedChecksum s' :=
    storedChecksum_eq_iff.mpr (State.bufBytes_congr fun x hx => hbuf (27 + x) (by omega))
  have hbad : s.checksumBad = s'.checksumBad := by
    rw [Bool.eq_iff_iff, checksumBad_iff, checksumBad_iff, hlen, hverify, hsummed, hstored]
  rw [decodeError_eq, decodeError_eq, hlen, hbad, hbuf 1 (by decide)]

/-- Settles O40: the inputs decide whether a command succeeds, and what it then writes. -/
theorem codecOutcomeDependsOnlyOnItsInputs : Obligations.CodecOutcomeDependsOnlyOnItsInputs := by
  refine ⟨fun s s' hnax hnbt haxis hbtn => ?enc, fun s s' hlen hverify hbuf => ?dec⟩
  case enc =>
    have hshape : s.wellShaped = s'.wellShaped := by
      rw [State.wellShaped, State.wellShaped, hnax, hnbt]
    cases h : s.wellShaped with
    | true =>
      refine ⟨_, _, exec_cfgEnc_of_wellShaped h, exec_cfgEnc_of_wellShaped (hshape ▸ h), rfl,
        fun _ => ⟨rfl, ?_⟩⟩
      calc s.storeImage.bufBytes 0 30
          = withChecksum s.payload := storeImage_bufBytes s
        _ = withChecksum s'.payload := by rw [payload_eq, payload_eq, haxis, hbtn]
        _ = s'.storeImage.bufBytes 0 30 := (storeImage_bufBytes s').symm
    | false =>
      exact ⟨_, _, exec_cfgEnc_of_not_wellShaped h, exec_cfgEnc_of_not_wellShaped (hshape ▸ h), rfl,
        fun hok => absurd hok (CmdError.code_ne_resOk .invalidRecordShape)⟩
  case dec =>
    have hget (x : Nat) (hx : x < 31) : s.bufGet (BitVec.ofNat 6 x) = s'.bufGet (BitVec.ofNat 6 x) := by
      rw [← bufBytes_getD s hx, hbuf, bufBytes_getD s' hx]
    have herrors := decodeError_congr hlen hverify hget
    cases herror : s.decodeError with
    | none =>
      refine ⟨_, _, exec_cfgDec_of_none herror, exec_cfgDec_of_none (herrors ▸ herror), rfl,
        fun _ => ⟨hget 1 (by decide), rfl, rfl, ?axis, ?btn⟩⟩
      case axis => exact congrArg Vector.ofFn (funext fun i => hget _ (by omega))
      case btn => exact congrArg Vector.ofFn (funext fun j => hget _ (by omega))
    | some e =>
      exact ⟨_, _, exec_cfgDec_of_some herror, exec_cfgDec_of_some (herrors ▸ herror), rfl,
        fun hok => absurd hok e.code_ne_resOk⟩

/-! ## One changed byte (R111, R83) -/

/-- The bytes before and after the changed one are as they were, so O26 applies. -/
theorem crc32_bufPut_ne {s : State} {k : BufIdx} {v : Byte} (hlo : 1 ≤ k.toNat) (hhi : k.toNat ≤ 26)
    (hne : v ≠ s.bufGet k) :
    crc32 ((s.bufPut k v).bufBytes 1 26) ≠ crc32 (s.bufBytes 1 26) := by
  have hsplit : 26 = (k.toNat - 1) + (1 + (26 - k.toNat)) := by omega
  have hk : BitVec.ofNat 6 (1 + (k.toNat - 1)) = k := by
    rw [Nat.add_sub_cancel' hlo, BitVec.ofNat_toNat, BitVec.setWidth_eq]
  have hnext : 1 + (k.toNat - 1) + 1 = k.toNat + 1 := by omega
  rw [hsplit, bufBytes_around, bufBytes_around, hk, hnext, State.bufGet_bufPut_same,
    bufBytes_bufPut s v (by omega) (by omega), bufBytes_bufPut s v (by omega) (by omega)]
  exact CrcEngine.oneChangedByteChangesChecksum _ _ _ _ hne

/-- The stored checksum tells its four bytes, so changing one changes it. -/
theorem storedChecksum_bufPut_ne {s : State} {k : BufIdx} {v : Byte} (hlo : 27 ≤ k.toNat)
    (hhi : k.toNat ≤ 30) (hne : v ≠ s.bufGet k) :
    storedChecksum (s.bufPut k v) ≠ storedChecksum s := by
  intro hsame
  have hbyte := bufGet_eq_of_bufBytes_eq (storedChecksum_eq_iff.mp hsame) hlo (by omega)
  exact hne ((State.bufGet_bufPut_same s k v).symm.trans hbyte)

/-- Settles O41: the changed byte is on one side of the comparison, which it changes, and not on the
other. -/
theorem oneChangedByteIsDetected : Obligations.OneChangedByteIsDetected := by
  intro s t hverify hwire hnext hresult k v hlo hhi hne
  obtain ⟨hlen, hversion, hgood⟩ :=
    (decodeError_eq_none_iff s).mp (decodeError_of_result hnext hresult)
  have hsum : storedChecksum s = crc32 (s.bufBytes 1 26) := by
    by_contra hdiffers
    exact hgood ((checksumBad_iff s).mpr ⟨hverify, hwire, hdiffers⟩)
  have hdetects : storedChecksum (s.bufPut k v) ≠ crc32 ((s.bufPut k v).bufBytes 1 26) := by
    by_cases hpayload : k.toNat ≤ 26
    · have hstored : storedChecksum (s.bufPut k v) = storedChecksum s :=
        storedChecksum_eq_iff.mpr (bufBytes_bufPut s v (by decide) (by omega))
      rw [hstored, hsum]
      exact (crc32_bufPut_ne (by omega) hpayload hne).symm
    · rw [bufBytes_bufPut s v (by decide) (by omega), ← hsum]
      exact storedChecksum_bufPut_ne (by omega) hhi hne
  have hkept : (s.bufPut k v).bufGet 1#6 = s.bufGet 1#6 :=
    State.bufGet_bufPut_other s v (by rintro rfl; exact absurd hlo (by decide))
  have hbad := (checksumBad_iff (s.bufPut k v)).mpr ⟨hverify, hwire, hdetects⟩
  exact exec_cfgDec_of_some
    (decodeError_of_checksumBad (s := s.bufPut k v) hlen (hkept.trans hversion) hbad)

end Sys2Proof.ConfigCodec

/-! SUPPORT. The statements of 42_register_access.md. Where a word's address is decoded is
`Encoding.writeInstr_axisAddr` and its like; what a register reads after a write is in `Laws/Ops.lean`. -/

namespace Sys2Proof.RegisterAccess

open Sys2Proof.Machine

/-! ## The words -/

/-- The register map's address of an array's register (20_memory.md R41): base plus index. -/
theorem base_add_eq_axisAddr (i : AxisIdx) : 0x10#7 + i.setWidth 7 = axisAddr i := by
  revert i
  decide

theorem base_add_eq_btnAddr (j : BtnIdx) : 0x20#7 + j.setWidth 7 = btnAddr j := by
  revert j
  decide

theorem base_add_eq_bufAddr (k : BufIdx) : 0x40#7 + k.setWidth 7 = bufAddr k := by
  revert k
  decide

/-- At an address whose write takes the low byte only, the bits above it are of no account
(30_encoding.md R63 b). -/
theorem decode_write_byte {a : Addr} {write : Byte → Instr}
    (hrow : ∀ d, writeInstr a d = write (dataByte d)) (hi : BitVec 24) (v : Byte) :
    decode (txn true a (hi ++ v)) = write v := by
  rw [decode_write, hrow, dataByte_append]

/-! ## Reads -/

/-- Settles O42: each word is at its register's address, and its meaning is one response. -/
theorem registerReadsZeroExtend : Obligations.RegisterReadsZeroExtend :=
  fun _ d => ⟨decode_read _ d, rfl, decode_read _ d, rfl, decode_read _ d, rfl,
    decode_read _ d, rfl, decode_read _ d, rfl⟩

/-- Settles O43: base plus index is the array's address, where the decoder finds the array's row. -/
theorem arrayReadsZeroExtend : Obligations.ArrayReadsZeroExtend := by
  intro s d i j k
  rw [base_add_eq_axisAddr, base_add_eq_btnAddr, base_add_eq_bufAddr]
  exact ⟨(decode_read _ d).trans (Encoding.readInstr_axisAddr i), rfl,
    (decode_read _ d).trans (Encoding.readInstr_btnAddr j), rfl,
    (decode_read _ d).trans (Encoding.readInstr_bufAddr k), rfl⟩

/-! ## Writes of a single register -/

/-- Settles O44: the clamped byte fits `BUF_LEN`'s seven bits. -/
theorem bufLenWriteClamps : Obligations.BufLenWriteClamps :=
  fun _ hi v => ⟨decode_write_byte (fun _ => rfl) hi v, _, rfl, toNat_clampLen v, rfl⟩

/-- Settles O45: each word is at its register's address and carries the byte at its low end. -/
theorem recordScalarWrites : Obligations.RecordScalarWrites :=
  fun _ hi v => ⟨decode_write_byte (fun _ => rfl) hi v, rfl, decode_write_byte (fun _ => rfl) hi v, rfl,
    decode_write_byte (fun _ => rfl) hi v, rfl⟩

/-! ## Writes of one register of an array -/

/-- Settles O46: by the read-after-write laws of the axis file. -/
theorem axisWriteChangesOneRegister : Obligations.AxisWriteChangesOneRegister := by
  intro s hi i v
  rw [base_add_eq_axisAddr]
  exact ⟨decode_write_byte (Encoding.writeInstr_axisAddr i) hi v, s.axisPut i v, rfl,
    State.axisGet_axisPut_same s i v, fun _ hother => State.axisGet_axisPut_other s v hother, rfl⟩

/-- Settles O47: by the read-after-write laws of the button file. -/
theorem buttonWriteChangesOneRegister : Obligations.ButtonWriteChangesOneRegister := by
  intro s hi j v
  rw [base_add_eq_btnAddr]
  exact ⟨decode_write_byte (Encoding.writeInstr_btnAddr j) hi v, s.btnPut j v, rfl,
    State.btnGet_btnPut_same s j v, fun _ hother => State.btnGet_btnPut_other s v hother, rfl⟩

/-- Settles O48: by the read-after-write laws of the buffer. -/
theorem bufferWriteChangesOneByte : Obligations.BufferWriteChangesOneByte := by
  intro s hi k v
  rw [base_add_eq_bufAddr]
  exact ⟨decode_write_byte (Encoding.writeInstr_bufAddr k) hi v, s.bufPut k v, rfl,
    State.bufGet_bufPut_same s k v, fun _ hother => State.bufGet_bufPut_other s v hother, rfl⟩

end Sys2Proof.RegisterAccess

/-! SUPPORT. The statements of 60_exceptions.md. A command ends in one of two ways (R168): `RESULT` says
OK, or nothing but `RESULT` has changed. Which code `RESULT` holds after CFG.ENC and CFG.DEC is one
equation each, and each outcome of CFG.DEC's tests has one lemma on its cause. -/

namespace Sys2Proof.Exceptions

open Sys2Proof.Machine Sys2Proof.ConfigCodec
open Sys2Proof.Programs (decodeError_eq)

/-! ## How a command ends (R168) -/

/-- `RESULT` says OK, or nothing but `RESULT` has changed. -/
def OkOrOnlyResult (s t : State) : Prop :=
  t.result = 0x00#8 ∨ t = { s with result := t.result }

theorem okOrOnlyResult_setResult_resOk (s u : State) : OkOrOnlyResult s (u.setResult resOk) := .inl rfl

theorem okOrOnlyResult_setResult (s : State) (c : Byte) : OkOrOnlyResult s (s.setResult c) := .inr rfl

theorem exec_command_okOrOnlyResult {i : Instr} {s t : State} (hcommand : isCommand i = true)
    (hnext : exec i s = .next t) : OkOrOnlyResult s t := by
  cases i with
  | crcInit =>
    cases hnext
    exact okOrOnlyResult_setResult_resOk s _
  | cfgEnc =>
    obtain ⟨-, hcase⟩ | ⟨-, hcase⟩ := execCfgEnc_cases s
    all_goals cases hcase.symm.trans hnext
    · exact okOrOnlyResult_setResult_resOk s _
    · exact okOrOnlyResult_setResult s _
  | cfgDec =>
    obtain ⟨-, hcase⟩ | ⟨e, -, hcase⟩ := execCfgDec_cases s
    all_goals cases hcase.symm.trans hnext
    · exact okOrOnlyResult_setResult_resOk s _
    · exact okOrOnlyResult_setResult s _
  | cmdRsvd =>
    cases hnext
    exact okOrOnlyResult_setResult s _
  | _ => simp [isCommand] at hcommand

/-- Settles O50: the other way a command can end is excluded by its code. -/
theorem failedCommandChangesOnlyResult : Obligations.FailedCommandChangesOnlyResult :=
  fun _ _ _ hcommand hnext herror =>
    (exec_command_okOrOnlyResult hcommand hnext).resolve_left herror

/-! ## The causes of CFG.DEC's errors (R163 to R165) -/

theorem decodeError_eq_unsupportedVersion_iff (s : State) :
    s.decodeError = some .unsupportedVersion ↔ 2 ≤ s.bufLen.toNat ∧ s.bufGet 1#6 ≠ 0x01#8 := by
  rw [decodeError_eq]
  split_ifs with h2 h1 h27 hbad
  · exact iff_of_false nofun fun ⟨hlen, _⟩ => h2.not_ge hlen
  · exact iff_of_true rfl ⟨not_lt.mp h2, h1⟩
  all_goals exact iff_of_false nofun fun ⟨_, hversion⟩ => h1 hversion

theorem decodeError_eq_checksumMismatch_iff (s : State) :
    s.decodeError = some .checksumMismatch ↔ s.decVerifyCrc = true ∧ 31 ≤ s.bufLen.toNat ∧
      s.bufGet 1#6 = 0x01#8 ∧ storedChecksum s ≠ crc32 (s.bufBytes 1 26) := by
  rw [decodeError_eq]
  split_ifs with h2 h1 h27 hbad
  · exact iff_of_false nofun fun ⟨_, hwire, _⟩ => by omega
  · exact iff_of_false nofun fun ⟨_, _, hversion, _⟩ => h1 hversion
  · exact iff_of_false nofun fun ⟨_, hwire, _⟩ => by omega
  · obtain ⟨hverify, hwire, hdiffers⟩ := (checksumBad_iff s).mp hbad
    exact iff_of_true rfl ⟨hverify, hwire, not_not.mp h1, hdiffers⟩
  · exact iff_of_false nofun fun ⟨hverify, hwire, _, hdiffers⟩ =>
      hbad ((checksumBad_iff s).mpr ⟨hverify, hwire, hdiffers⟩)

theorem decodeError_eq_shortBuffer_iff (s : State) : s.decodeError = some .shortBuffer ↔
    s.bufLen.toNat < 2 ∨ (s.bufGet 1#6 = 0x01#8 ∧ s.bufLen.toNat < 27) := by
  rw [decodeError_eq]
  split_ifs with h2 h1 h27 hbad
  · exact iff_of_true rfl (.inl h2)
  · exact iff_of_false nofun fun h => h.elim h2 fun ⟨hversion, _⟩ => h1 hversion
  · exact iff_of_true rfl (.inr ⟨not_not.mp h1, h27⟩)
  all_goals exact iff_of_false nofun fun h => h.elim h2 fun ⟨_, hlen⟩ => h27 hlen

theorem decodeError_eq_none_iff_of_verify (s : State) : s.decodeError = none ↔
    27 ≤ s.bufLen.toNat ∧ s.bufGet 1#6 = 0x01#8 ∧ (s.decVerifyCrc = true → 31 ≤ s.bufLen.toNat →
      storedChecksum s = crc32 (s.bufBytes 1 26)) := by
  simp only [decodeError_eq_none_iff, checksumBad_iff, not_and, not_not]

/-! ## The code in `RESULT` (R161) -/

/-- The code of a command whose tests ended so. -/
def outcomeCode : Option CmdError → Byte
  | none => resOk
  | some e => e.code

theorem code_injective {e e' : CmdError} (h : e.code = e'.code) : e = e' := by
  revert h
  cases e <;> cases e' <;> decide

theorem outcomeCode_eq_iff {o o' : Option CmdError} : outcomeCode o = outcomeCode o' ↔ o = o' := by
  refine ⟨fun h => ?_, congrArg outcomeCode⟩
  match o, o' with
  | none, none => rfl
  | none, some e' => exact absurd h.symm e'.code_ne_resOk
  | some e, none => exact absurd h e.code_ne_resOk
  | some e, some e' => exact congrArg some (code_injective h)

theorem outcomeCode_decodeError_mem (s : State) :
    outcomeCode s.decodeError ∈ [0x00#8, 0x02#8, 0x03#8, 0x04#8] := by
  rw [decodeError_eq]
  split_ifs <;> decide

theorem exec_cfgDec_result (s : State) :
    ∃ t : State, exec .cfgDec s = .next t ∧ t.result = outcomeCode s.decodeError := by
  cases herror : s.decodeError with
  | none => exact ⟨_, exec_cfgDec_of_none herror, rfl⟩
  | some e => exact ⟨_, exec_cfgDec_of_some herror, rfl⟩

/-- CFG.ENC's one test is the record's shape (R162). -/
theorem exec_cfgEnc_result (s : State) :
    ∃ t : State, exec .cfgEnc s = .next t ∧
      t.result = if s.recNax = 8#8 ∧ s.recNbt = 16#8 then 0x00#8 else 0x01#8 := by
  cases h : s.wellShaped with
  | true => exact ⟨_, exec_cfgEnc_of_wellShaped h, (if_pos ((wellShaped_iff s).mp h)).symm⟩
  | false =>
    have hshape := mt (wellShaped_iff s).mpr (Bool.eq_false_iff.mp h)
    exact ⟨_, exec_cfgEnc_of_not_wellShaped h, (if_neg hshape).symm⟩

/-- Settles O51: a code of CFG.DEC tells which outcome its tests had, and that outcome has one cause. -/
theorem commandErrorCauses : Obligations.CommandErrorCauses := by
  intro s
  refine ⟨⟨_, rfl, rfl⟩, ?decodeReserved, fun _ => rfl, ?enc, ?dec, fun i t hother hnext =>
    StateChange.onlyCommandsWriteResult i s t hnext hother⟩
  case decodeReserved =>
    intro hi op hinit henc hdec
    obtain ⟨hreserved, -⟩ := Encoding.reservedCommandIsIllegal
    exact (hreserved s hi op hinit henc hdec).1
  case enc =>
    obtain ⟨t, hexec, hresult⟩ := exec_cfgEnc_result s
    refine ⟨t, hexec, ?wrongShape, ?wellShaped, exec_command_okOrOnlyResult rfl hexec⟩
    case wrongShape => simp [hresult, imp_iff_not_or]
    case wellShaped => simp [hresult]
  case dec =>
    obtain ⟨t, hexec, hresult⟩ := exec_cfgDec_result s
    have hcode (o : Option CmdError) : t.result = outcomeCode o ↔ s.decodeError = o :=
      hresult ▸ outcomeCode_eq_iff
    exact ⟨t, hexec,
      (hcode (some .unsupportedVersion)).trans (decodeError_eq_unsupportedVersion_iff s),
      (hcode (some .checksumMismatch)).trans (decodeError_eq_checksumMismatch_iff s),
      (hcode (some .shortBuffer)).trans (decodeError_eq_shortBuffer_iff s),
      (hcode none).trans (decodeError_eq_none_iff_of_verify s),
      hresult ▸ outcomeCode_decodeError_mem s,
      exec_command_okOrOnlyResult rfl hexec⟩

end Sys2Proof.Exceptions

/-! SUPPORT. The statements of 70_reset_and_hazards.md. At reset the accumulator is the complement of zero,
the table window is at entry `0x00`, the record's lengths are not 8 and 16, and the buffer is shorter than
an opcode: R181's four consequences are those facts, put through what each instruction does. -/

namespace Sys2Proof.Reset

open Sys2Proof.Machine Sys2Proof.ConfigCodec

/-! ## The state after reset (R181) -/

@[simp] theorem axisGet_resetOf (v : Bool) (i : AxisIdx) : (State.resetOf v).axisGet i = 0x00#8 :=
  Vector.getElem_replicate _

@[simp] theorem btnGet_resetOf (v : Bool) (j : BtnIdx) : (State.resetOf v).btnGet j = 0x00#8 :=
  Vector.getElem_replicate _

@[simp] theorem bufGet_resetOf (v : Bool) (k : BufIdx) : (State.resetOf v).bufGet k = 0x00#8 :=
  Memory.readByte_nil k

/-- The record of a reset block has lengths 0 and 0, not 8 and 16 (10_state.md R29). -/
theorem wellShaped_resetOf (v : Bool) : (State.resetOf v).wellShaped = false :=
  Bool.eq_false_iff.mpr fun h => absurd ((wellShaped_iff _).mp h).1 (by decide : 0x00#8 ≠ 8#8)

/-- The empty buffer fails CFG.DEC's first test, before any checksum is looked at. -/
theorem decodeError_resetOf (v : Bool) : (State.resetOf v).decodeError = some .shortBuffer :=
  (Exceptions.decodeError_eq_shortBuffer_iff _).mpr (.inl (by decide : (0#7).toNat < 2))

/-- The formula's function `g` keeps zero (40_crc_engine.md R80). -/
theorem tableEntry_zero : tableEntry 0x00#8 = 0x00000000#32 :=
  (CrcEngine.tableMatchesFormula _).trans (by decide)

/-! ## Its four consequences (R181) -/

theorem exec_crcFin_resetOf (v : Bool) :
    exec .crcFin (State.resetOf v) = respond (State.resetOf v) 0x00000000#32 :=
  calc exec .crcFin (State.resetOf v)
      = respond (State.resetOf v) (~~~0xFFFFFFFF#32) := RegisterMap.execCrcFin_eq_respond_not _
    _ = respond (State.resetOf v) 0x00000000#32 := congrArg _ (by decide)

theorem exec_rdTbl_resetOf (v : Bool) :
    exec .rdTbl (State.resetOf v) = respond (State.resetOf v) 0x00000000#32 :=
  congrArg (respond (State.resetOf v)) tableEntry_zero

theorem exec_cfgEnc_resetOf (v : Bool) :
    exec .cfgEnc (State.resetOf v) = .next ((State.resetOf v).setResult 0x01#8) :=
  exec_cfgEnc_of_not_wellShaped (wellShaped_resetOf v)

theorem exec_cfgDec_resetOf (v : Bool) :
    exec .cfgDec (State.resetOf v) = .next ((State.resetOf v).setResult 0x04#8) :=
  exec_cfgDec_of_some (decodeError_resetOf v)

/-- Settles O13: the register values are the definition's, the table is the formula's by O23. -/
theorem resetState : Obligations.ResetState :=
  fun v => ⟨rfl, rfl, rfl, rfl, rfl, rfl, axisGet_resetOf v, btnGet_resetOf v, bufGet_resetOf v, rfl,
    CrcEngine.tableMatchesFormula, exec_crcFin_resetOf v, exec_rdTbl_resetOf v, exec_cfgEnc_resetOf v,
    exec_cfgDec_resetOf v⟩

/-! ## The invariant -/

/-- Settles O14: `RESULT` is OK, so no ChecksumMismatch stands in it, and an empty buffer is canonical. -/
theorem invariantAtReset : Obligations.InvariantAtReset := fun v =>
  { buf_wf := Memory.wf_nil
    bufLen_le := Nat.zero_le _
    result_code := (by decide : resOk ∈ resultCodes)
    result_verify := fun _ => (CmdError.code_ne_resOk .checksumMismatch).symm }

end Sys2Proof.Reset

/-! SUPPORT. The one statement of 00_scope.md that the sections above leave open: the idle step. -/

namespace Sys2Proof.Scope

/-- Settles O9: with no word pending the port's fetch takes none, so the step stays where it is (log
entry 2). -/
theorem idleStepChangesNothing : Obligations.IdleStepChangesNothing :=
  fun _ => step_of_pending_nil

end Sys2Proof.Scope
